-- ==== Sys2Proof/Word.lean ====
section
/-! DEFINITION. The machine's one data width (spec/00_scope.md R7, R9): every register, memory word
and address is an unsigned 16-bit number, and arithmetic wraps modulo 65536, as `BitVec` arithmetic
does. -/

namespace Sys2Proof

/-- A 16-bit word, which is also a word address (R7, R9). -/
abbrev Word := BitVec 16

/-- How many words the address space has (R7, R60). -/
def addressSpace : Nat := 65536

end Sys2Proof
end

