-- ==== Sys2Proof/Config.lean ====
section
/-! DEFINITION. What the spec leaves to the implementation or to the environment
(spec/93_implementation_defined.md, section 2): the value an input port holds, and the framebuffer
width. Both are constants without a body, so nothing can be proved of their values. -/

namespace Sys2Proof

/-- The three I/O ports, A = 0, B = 1, C = 2 (spec/10_state.md R45). -/
inductive Port where
  | a
  | b
  | c
  deriving DecidableEq, Repr

namespace Config

/-- `InPort(p)`: the value an IN samples from a port the host has not set, "a draw with no law"
(R45; 92_eei_decisions.md D17). The number says which draw it is, so that two draws may differ.
Log entry 1. -/
opaque inPortDraw : Port → Nat → Word

/-- The framebuffer width less one. `FB_WIDTH` is OPEN, "a positive integer" (92_eei_decisions.md D25). -/
opaque fbWidthLessOne : Nat

/-- `FB_WIDTH`, positive by construction (R70). Log entry 2. -/
def fbWidth : Nat := fbWidthLessOne + 1

end Config

end Sys2Proof
end

