-- ==== Sys2Proof/Syntax.lean ====
section
/-! DEFINITION. The instructions: one constructor per (class, subopcode) pair of spec/opcode_table.json
(spec/30_encoding.md R95). A constructor carries the fields its format names (R96): register numbers and,
for a two-word instruction, its extension word. The operand bits a format does not name are ignored by
the hardware (R92), so no constructor carries them; the raw word stays in IR0. -/

namespace Sys2Proof

/-- A register number, a three-bit field of the instruction word (R91, R21). -/
abbrev Reg := Fin 8

/-- The 128 instructions, in the order of the opcode table (R95). -/
inductive Instr where
  -- class 0, register ALU operations (41_alu_instructions.md)
  | add (dst srcA srcB : Reg)
  | sub (dst srcA srcB : Reg)
  | mul (dst srcA srcB : Reg)
  | div (dst srcA srcB : Reg)
  | mod (dst srcA srcB : Reg)
  | and (dst srcA srcB : Reg)
  | or (dst srcA srcB : Reg)
  | nand (dst srcA srcB : Reg)
  | nor (dst srcA srcB : Reg)
  | xor (dst srcA srcB : Reg)
  | zero10 (dst : Reg)
  | zero11 (dst : Reg)
  | zero12 (dst : Reg)
  | zero13 (dst : Reg)
  | zero14 (dst : Reg)
  | zero15 (dst : Reg)
  -- class 1, compare, NOT and inert words (41_alu_instructions.md)
  | nop1_0
  | nop1_1
  | nop1_2
  | nop1_3
  | nop1_4
  | nop1_5
  | nop1_6
  | nop1_7
  | nop1_8
  | nop1_9
  | cmp (srcA srcB : Reg)
  | not (dst srcA : Reg)
  | nop1_12
  | nop1_13
  | nop1_14
  | nop1_15
  -- class 2, load immediate (42_load_store.md)
  | ldi (dst : Reg) (ext : Word)
  | ldi1 (dst : Reg) (ext : Word)
  | ldi2 (dst : Reg) (ext : Word)
  | ldi3 (dst : Reg) (ext : Word)
  | ldi4 (dst : Reg) (ext : Word)
  | ldi5 (dst : Reg) (ext : Word)
  | ldi6 (dst : Reg) (ext : Word)
  | ldi7 (dst : Reg) (ext : Word)
  | ldi8 (dst : Reg) (ext : Word)
  | ldi9 (dst : Reg) (ext : Word)
  | ldi10 (dst : Reg) (ext : Word)
  | ldi11 (dst : Reg) (ext : Word)
  | ldi12 (dst : Reg) (ext : Word)
  | ldi13 (dst : Reg) (ext : Word)
  | ldi14 (dst : Reg) (ext : Word)
  | ldi15 (dst : Reg) (ext : Word)
  -- class 3, memory access (42_load_store.md)
  | ld (dst : Reg) (ext : Word)
  | st (srcA : Reg) (ext : Word)
  | str (srcA srcB : Reg)
  | ldr (dst srcB : Reg)
  | nop3_4
  | nop3_5
  | nop3_6
  | nop3_7
  | nop3_8
  | nop3_9
  | nop3_10
  | nop3_11
  | nop3_12
  | nop3_13
  | nop3_14
  | nop3_15
  -- class 4, jumps, call and return (43_control_transfer.md)
  | jmp (ext : Word)
  | jc (ext : Word)
  | jnc (ext : Word)
  | jv (ext : Word)
  | jcv (ext : Word)
  | jncv (ext : Word)
  | jnv (ext : Word)
  | jlt (ext : Word)
  | jclt (ext : Word)
  | jnclt (ext : Word)
  | jlta (ext : Word)
  | jsr (ext : Word)
  | rts
  | nop4_13
  | nop4_14
  | nop4_15
  -- class 5, stack (44_stack.md)
  | push (srcA : Reg)
  | pop (dst : Reg)
  | push2 (srcA : Reg)
  | push3 (srcA : Reg)
  | push4 (srcA : Reg)
  | push5 (srcA : Reg)
  | push6 (srcA : Reg)
  | push7 (srcA : Reg)
  | push8 (srcA : Reg)
  | push9 (srcA : Reg)
  | push10 (srcA : Reg)
  | push11 (srcA : Reg)
  | push12 (srcA : Reg)
  | push13 (srcA : Reg)
  | push14 (srcA : Reg)
  | push15 (srcA : Reg)
  -- class 6, reserved and inert (45_io_system.md)
  | nop6_0
  | nop6_1
  | nop6_2
  | nop6_3
  | nop6_4
  | nop6_5
  | nop6_6
  | nop6_7
  | nop6_8
  | nop6_9
  | nop6_10
  | nop6_11
  | nop6_12
  | nop6_13
  | nop6_14
  | nop6_15
  -- class 7, halt and port I/O (45_io_system.md)
  | hlt
  | inA (dst : Reg)
  | inB (dst : Reg)
  | inC (dst : Reg)
  | outA (srcA : Reg)
  | outB (srcA : Reg)
  | outC (srcA : Reg)
  | nop7_7
  | nop7_8
  | nop7_9
  | nop7_10
  | nop7_11
  | nop7_12
  | nop7_13
  | nop7_14
  | nop7_15
  deriving DecidableEq, Repr

end Sys2Proof
end

