-- ==== Sys2Proof/WellFormed.lean ====
section
/-! DEFINITION. What must be checked before it can be used. An instruction needs no check: a register
number is a `Fin 8` and an extension word a `Word`, so every term of `Instr` has fields of the width the
encoding gives them (spec/30_encoding.md R91, R93). The one input the spec allows to be malformed is a
memory image (spec/20_memory.md R72), and these are its checks. -/

namespace Sys2Proof

/-- One token of a memory image as the host's file holds it: a 16-bit word, or a token that is no number
("a non-numeric token", R72). How the text spells numbers is host software (91_not_in_source.md N4). -/
inductive ImageToken where
  | word (v : Word)
  | nonNumeric
  deriving DecidableEq, Repr

/-- Whether a token is a number. -/
def ImageToken.isNumeric (t : ImageToken) : Bool :=
  match t with
  | .word _ => true
  | .nonNumeric => false

/-- "A memory image is exactly 65536 16-bit words" (R72). -/
def imageSizeOk (ts : List ImageToken) : Bool := ts.length == addressSpace

/-- No token of the image is non-numeric (R72). -/
def imageNumericOk (ts : List ImageToken) : Bool := ts.all ImageToken.isNumeric

/-- A well-formed image (R72). -/
def imageWellFormed (ts : List ImageToken) : Bool := imageSizeOk ts && imageNumericOk ts

end Sys2Proof
end

