-- ==== Sys2Proof/Decode.lean ====
section
/-! DEFINITION. The decoder and the encoder (spec/30_encoding.md). Decoding a word never fails (R97): a
list of words is rejected, by name, only when it ends before the instruction does. -/

namespace Sys2Proof

/-! ## The fields of an instruction word (R91) -/

/-- `w[lo+width-1:lo]`, read as an unsigned number (spec/00_scope.md R8). -/
def bitField (w : Word) (lo width : Nat) : Nat := w.toNat / 2 ^ lo % 2 ^ width

/-- Bits 15 to 13, the class. -/
def classField (w : Word) : Nat := bitField w 13 3

/-- Bits 12 to 9, the subopcode. -/
def subField (w : Word) : Nat := bitField w 9 4

/-- Bits 8 to 6, always extracted (R92). -/
def dstField (w : Word) : Reg := Fin.ofNat 8 (bitField w 6 3)

/-- Bits 5 to 3, always extracted (R92). -/
def srcAField (w : Word) : Reg := Fin.ofNat 8 (bitField w 3 3)

/-- Bits 2 to 0, always extracted (R92). -/
def srcBField (w : Word) : Reg := Fin.ofNat 8 (bitField w 0 3)

/-- Which (class, subopcode) pairs consume an extension word: R90's list, which is the whole of the
length decoding (R101). -/
def hasExtension (cls sub : Nat) : Bool :=
  match cls with
  | 2 => true
  | 3 => sub ≤ 1
  | 4 => sub ≤ 11
  | _ => false

/-! ## The decoder, class by class -/


/-- Class 0, register ALU operations (41_alu_instructions.md), by subopcode (R95). -/
def decodeClass0 (sub : Nat) (d a b : Reg) : Instr :=
  match sub with
  | 0 => .add d a b
  | 1 => .sub d a b
  | 2 => .mul d a b
  | 3 => .div d a b
  | 4 => .mod d a b
  | 5 => .and d a b
  | 6 => .or d a b
  | 7 => .nand d a b
  | 8 => .nor d a b
  | 9 => .xor d a b
  | 10 => .zero10 d
  | 11 => .zero11 d
  | 12 => .zero12 d
  | 13 => .zero13 d
  | 14 => .zero14 d
  | _ => .zero15 d

/-- Class 1, compare, NOT and inert words (41_alu_instructions.md), by subopcode (R95). -/
def decodeClass1 (sub : Nat) (d a b : Reg) : Instr :=
  match sub with
  | 0 => .nop1_0
  | 1 => .nop1_1
  | 2 => .nop1_2
  | 3 => .nop1_3
  | 4 => .nop1_4
  | 5 => .nop1_5
  | 6 => .nop1_6
  | 7 => .nop1_7
  | 8 => .nop1_8
  | 9 => .nop1_9
  | 10 => .cmp a b
  | 11 => .not d a
  | 12 => .nop1_12
  | 13 => .nop1_13
  | 14 => .nop1_14
  | _ => .nop1_15

/-- Class 2, load immediate (42_load_store.md), by subopcode (R95). -/
def decodeClass2 (sub : Nat) (d : Reg) (x : Word) : Instr :=
  match sub with
  | 0 => .ldi d x
  | 1 => .ldi1 d x
  | 2 => .ldi2 d x
  | 3 => .ldi3 d x
  | 4 => .ldi4 d x
  | 5 => .ldi5 d x
  | 6 => .ldi6 d x
  | 7 => .ldi7 d x
  | 8 => .ldi8 d x
  | 9 => .ldi9 d x
  | 10 => .ldi10 d x
  | 11 => .ldi11 d x
  | 12 => .ldi12 d x
  | 13 => .ldi13 d x
  | 14 => .ldi14 d x
  | _ => .ldi15 d x

/-- Class 3, memory access (42_load_store.md), by subopcode (R95). -/
def decodeClass3 (sub : Nat) (d a b : Reg) (x : Word) : Instr :=
  match sub with
  | 0 => .ld d x
  | 1 => .st a x
  | 2 => .str a b
  | 3 => .ldr d b
  | 4 => .nop3_4
  | 5 => .nop3_5
  | 6 => .nop3_6
  | 7 => .nop3_7
  | 8 => .nop3_8
  | 9 => .nop3_9
  | 10 => .nop3_10
  | 11 => .nop3_11
  | 12 => .nop3_12
  | 13 => .nop3_13
  | 14 => .nop3_14
  | _ => .nop3_15

/-- Class 4, jumps, call and return (43_control_transfer.md), by subopcode (R95). -/
def decodeClass4 (sub : Nat) (x : Word) : Instr :=
  match sub with
  | 0 => .jmp x
  | 1 => .jc x
  | 2 => .jnc x
  | 3 => .jv x
  | 4 => .jcv x
  | 5 => .jncv x
  | 6 => .jnv x
  | 7 => .jlt x
  | 8 => .jclt x
  | 9 => .jnclt x
  | 10 => .jlta x
  | 11 => .jsr x
  | 12 => .rts
  | 13 => .nop4_13
  | 14 => .nop4_14
  | _ => .nop4_15

/-- Class 5, stack (44_stack.md), by subopcode (R95). -/
def decodeClass5 (sub : Nat) (d a : Reg) : Instr :=
  match sub with
  | 0 => .push a
  | 1 => .pop d
  | 2 => .push2 a
  | 3 => .push3 a
  | 4 => .push4 a
  | 5 => .push5 a
  | 6 => .push6 a
  | 7 => .push7 a
  | 8 => .push8 a
  | 9 => .push9 a
  | 10 => .push10 a
  | 11 => .push11 a
  | 12 => .push12 a
  | 13 => .push13 a
  | 14 => .push14 a
  | _ => .push15 a

/-- Class 6, reserved and inert (45_io_system.md), by subopcode (R95). -/
def decodeClass6 (sub : Nat) : Instr :=
  match sub with
  | 0 => .nop6_0
  | 1 => .nop6_1
  | 2 => .nop6_2
  | 3 => .nop6_3
  | 4 => .nop6_4
  | 5 => .nop6_5
  | 6 => .nop6_6
  | 7 => .nop6_7
  | 8 => .nop6_8
  | 9 => .nop6_9
  | 10 => .nop6_10
  | 11 => .nop6_11
  | 12 => .nop6_12
  | 13 => .nop6_13
  | 14 => .nop6_14
  | _ => .nop6_15

/-- Class 7, halt and port I/O (45_io_system.md), by subopcode (R95). -/
def decodeClass7 (sub : Nat) (d a : Reg) : Instr :=
  match sub with
  | 0 => .hlt
  | 1 => .inA d
  | 2 => .inB d
  | 3 => .inC d
  | 4 => .outA a
  | 5 => .outB a
  | 6 => .outC a
  | 7 => .nop7_7
  | 8 => .nop7_8
  | 9 => .nop7_9
  | 10 => .nop7_10
  | 11 => .nop7_11
  | 12 => .nop7_12
  | 13 => .nop7_13
  | 14 => .nop7_14
  | _ => .nop7_15

/-- The instruction whose first word is `w` and whose extension word, where it has one, is `x`: total on
all 65536 words (R97), and a function of the bits alone (R94). -/
def decodePair (w x : Word) : Instr :=
  match classField w with
  | 0 => decodeClass0 (subField w) (dstField w) (srcAField w) (srcBField w)
  | 1 => decodeClass1 (subField w) (dstField w) (srcAField w) (srcBField w)
  | 2 => decodeClass2 (subField w) (dstField w) x
  | 3 => decodeClass3 (subField w) (dstField w) (srcAField w) (srcBField w) x
  | 4 => decodeClass4 (subField w) x
  | 5 => decodeClass5 (subField w) (dstField w) (srcAField w)
  | 6 => decodeClass6 (subField w)
  | _ => decodeClass7 (subField w) (dstField w) (srcAField w)

/-- Why a list of words is no instruction. No word is illegal (R97): only words that are missing. -/
inductive DecodeError where
  /-- The list is empty. -/
  | noInstructionWord
  /-- The first word has an extension word (R90) and the list ends before it. -/
  | noExtensionWord
  deriving DecidableEq, Repr

/-- What the decoder answers. -/
inductive Decoded where
  /-- The instruction at the head of the list, and the words after it. -/
  | instr (i : Instr) (rest : List Word)
  /-- The list is rejected. -/
  | rejected (why : DecodeError)
  deriving DecidableEq, Repr

/-- Reads one instruction from a list of words: one word, or two where R90 says so. -/
def decode (ws : List Word) : Decoded :=
  match ws with
  | [] => .rejected .noInstructionWord
  | w :: rest =>
    if hasExtension (classField w) (subField w) then
      match rest with
      | [] => .rejected .noExtensionWord
      | x :: rest' => .instr (decodePair w x) rest'
    else .instr (decodePair w 0) rest

/-- The instruction read from an opcode-table row's bits, numbered as the table numbers them: bit 0 the
least significant bit of the first word, the extension word in bits 31 to 16, and every bit from
`nbits` up 0. -/
def decodeTableWord (nbits w : Nat) : Option Instr :=
  match decode [BitVec.ofNat 16 (w % 2 ^ nbits), BitVec.ofNat 16 (w % 2 ^ nbits / 2 ^ 16)] with
  | .instr i _ => some i
  | .rejected _ => none

/-! ## The encoder -/

/-- The fields an instruction is written with (R91): those its format does not name are 0 (R110). -/
structure Encoding where
  cls  : Nat
  sub  : Nat
  dst  : Reg
  srcA : Reg
  srcB : Reg
  ext  : Option Word
  deriving DecidableEq, Repr

/-- `w = opcode·0x2000 + sub·0x200 + dst·0x40 + srcA·8 + srcB` (R91). -/
def assemble (cls sub : Nat) (dst srcA srcB : Reg) : Word :=
  BitVec.ofNat 16 (cls * 0x2000 + sub * 0x200 + dst.val * 0x40 + srcA.val * 8 + srcB.val)

/-- Each instruction's fields: the opcode table read from instruction to bits (R95, R96). -/
def encodingOf (i : Instr) : Encoding :=
  match i with
  | .add d a b => ⟨0, 0, d, a, b, none⟩
  | .sub d a b => ⟨0, 1, d, a, b, none⟩
  | .mul d a b => ⟨0, 2, d, a, b, none⟩
  | .div d a b => ⟨0, 3, d, a, b, none⟩
  | .mod d a b => ⟨0, 4, d, a, b, none⟩
  | .and d a b => ⟨0, 5, d, a, b, none⟩
  | .or d a b => ⟨0, 6, d, a, b, none⟩
  | .nand d a b => ⟨0, 7, d, a, b, none⟩
  | .nor d a b => ⟨0, 8, d, a, b, none⟩
  | .xor d a b => ⟨0, 9, d, a, b, none⟩
  | .zero10 d => ⟨0, 10, d, 0, 0, none⟩
  | .zero11 d => ⟨0, 11, d, 0, 0, none⟩
  | .zero12 d => ⟨0, 12, d, 0, 0, none⟩
  | .zero13 d => ⟨0, 13, d, 0, 0, none⟩
  | .zero14 d => ⟨0, 14, d, 0, 0, none⟩
  | .zero15 d => ⟨0, 15, d, 0, 0, none⟩
  | .nop1_0 => ⟨1, 0, 0, 0, 0, none⟩
  | .nop1_1 => ⟨1, 1, 0, 0, 0, none⟩
  | .nop1_2 => ⟨1, 2, 0, 0, 0, none⟩
  | .nop1_3 => ⟨1, 3, 0, 0, 0, none⟩
  | .nop1_4 => ⟨1, 4, 0, 0, 0, none⟩
  | .nop1_5 => ⟨1, 5, 0, 0, 0, none⟩
  | .nop1_6 => ⟨1, 6, 0, 0, 0, none⟩
  | .nop1_7 => ⟨1, 7, 0, 0, 0, none⟩
  | .nop1_8 => ⟨1, 8, 0, 0, 0, none⟩
  | .nop1_9 => ⟨1, 9, 0, 0, 0, none⟩
  | .cmp a b => ⟨1, 10, 0, a, b, none⟩
  | .not d a => ⟨1, 11, d, a, 0, none⟩
  | .nop1_12 => ⟨1, 12, 0, 0, 0, none⟩
  | .nop1_13 => ⟨1, 13, 0, 0, 0, none⟩
  | .nop1_14 => ⟨1, 14, 0, 0, 0, none⟩
  | .nop1_15 => ⟨1, 15, 0, 0, 0, none⟩
  | .ldi d x => ⟨2, 0, d, 0, 0, some x⟩
  | .ldi1 d x => ⟨2, 1, d, 0, 0, some x⟩
  | .ldi2 d x => ⟨2, 2, d, 0, 0, some x⟩
  | .ldi3 d x => ⟨2, 3, d, 0, 0, some x⟩
  | .ldi4 d x => ⟨2, 4, d, 0, 0, some x⟩
  | .ldi5 d x => ⟨2, 5, d, 0, 0, some x⟩
  | .ldi6 d x => ⟨2, 6, d, 0, 0, some x⟩
  | .ldi7 d x => ⟨2, 7, d, 0, 0, some x⟩
  | .ldi8 d x => ⟨2, 8, d, 0, 0, some x⟩
  | .ldi9 d x => ⟨2, 9, d, 0, 0, some x⟩
  | .ldi10 d x => ⟨2, 10, d, 0, 0, some x⟩
  | .ldi11 d x => ⟨2, 11, d, 0, 0, some x⟩
  | .ldi12 d x => ⟨2, 12, d, 0, 0, some x⟩
  | .ldi13 d x => ⟨2, 13, d, 0, 0, some x⟩
  | .ldi14 d x => ⟨2, 14, d, 0, 0, some x⟩
  | .ldi15 d x => ⟨2, 15, d, 0, 0, some x⟩
  | .ld d x => ⟨3, 0, d, 0, 0, some x⟩
  | .st a x => ⟨3, 1, 0, a, 0, some x⟩
  | .str a b => ⟨3, 2, 0, a, b, none⟩
  | .ldr d b => ⟨3, 3, d, 0, b, none⟩
  | .nop3_4 => ⟨3, 4, 0, 0, 0, none⟩
  | .nop3_5 => ⟨3, 5, 0, 0, 0, none⟩
  | .nop3_6 => ⟨3, 6, 0, 0, 0, none⟩
  | .nop3_7 => ⟨3, 7, 0, 0, 0, none⟩
  | .nop3_8 => ⟨3, 8, 0, 0, 0, none⟩
  | .nop3_9 => ⟨3, 9, 0, 0, 0, none⟩
  | .nop3_10 => ⟨3, 10, 0, 0, 0, none⟩
  | .nop3_11 => ⟨3, 11, 0, 0, 0, none⟩
  | .nop3_12 => ⟨3, 12, 0, 0, 0, none⟩
  | .nop3_13 => ⟨3, 13, 0, 0, 0, none⟩
  | .nop3_14 => ⟨3, 14, 0, 0, 0, none⟩
  | .nop3_15 => ⟨3, 15, 0, 0, 0, none⟩
  | .jmp x => ⟨4, 0, 0, 0, 0, some x⟩
  | .jc x => ⟨4, 1, 0, 0, 0, some x⟩
  | .jnc x => ⟨4, 2, 0, 0, 0, some x⟩
  | .jv x => ⟨4, 3, 0, 0, 0, some x⟩
  | .jcv x => ⟨4, 4, 0, 0, 0, some x⟩
  | .jncv x => ⟨4, 5, 0, 0, 0, some x⟩
  | .jnv x => ⟨4, 6, 0, 0, 0, some x⟩
  | .jlt x => ⟨4, 7, 0, 0, 0, some x⟩
  | .jclt x => ⟨4, 8, 0, 0, 0, some x⟩
  | .jnclt x => ⟨4, 9, 0, 0, 0, some x⟩
  | .jlta x => ⟨4, 10, 0, 0, 0, some x⟩
  | .jsr x => ⟨4, 11, 0, 0, 0, some x⟩
  | .rts => ⟨4, 12, 0, 0, 0, none⟩
  | .nop4_13 => ⟨4, 13, 0, 0, 0, none⟩
  | .nop4_14 => ⟨4, 14, 0, 0, 0, none⟩
  | .nop4_15 => ⟨4, 15, 0, 0, 0, none⟩
  | .push a => ⟨5, 0, 0, a, 0, none⟩
  | .pop d => ⟨5, 1, d, 0, 0, none⟩
  | .push2 a => ⟨5, 2, 0, a, 0, none⟩
  | .push3 a => ⟨5, 3, 0, a, 0, none⟩
  | .push4 a => ⟨5, 4, 0, a, 0, none⟩
  | .push5 a => ⟨5, 5, 0, a, 0, none⟩
  | .push6 a => ⟨5, 6, 0, a, 0, none⟩
  | .push7 a => ⟨5, 7, 0, a, 0, none⟩
  | .push8 a => ⟨5, 8, 0, a, 0, none⟩
  | .push9 a => ⟨5, 9, 0, a, 0, none⟩
  | .push10 a => ⟨5, 10, 0, a, 0, none⟩
  | .push11 a => ⟨5, 11, 0, a, 0, none⟩
  | .push12 a => ⟨5, 12, 0, a, 0, none⟩
  | .push13 a => ⟨5, 13, 0, a, 0, none⟩
  | .push14 a => ⟨5, 14, 0, a, 0, none⟩
  | .push15 a => ⟨5, 15, 0, a, 0, none⟩
  | .nop6_0 => ⟨6, 0, 0, 0, 0, none⟩
  | .nop6_1 => ⟨6, 1, 0, 0, 0, none⟩
  | .nop6_2 => ⟨6, 2, 0, 0, 0, none⟩
  | .nop6_3 => ⟨6, 3, 0, 0, 0, none⟩
  | .nop6_4 => ⟨6, 4, 0, 0, 0, none⟩
  | .nop6_5 => ⟨6, 5, 0, 0, 0, none⟩
  | .nop6_6 => ⟨6, 6, 0, 0, 0, none⟩
  | .nop6_7 => ⟨6, 7, 0, 0, 0, none⟩
  | .nop6_8 => ⟨6, 8, 0, 0, 0, none⟩
  | .nop6_9 => ⟨6, 9, 0, 0, 0, none⟩
  | .nop6_10 => ⟨6, 10, 0, 0, 0, none⟩
  | .nop6_11 => ⟨6, 11, 0, 0, 0, none⟩
  | .nop6_12 => ⟨6, 12, 0, 0, 0, none⟩
  | .nop6_13 => ⟨6, 13, 0, 0, 0, none⟩
  | .nop6_14 => ⟨6, 14, 0, 0, 0, none⟩
  | .nop6_15 => ⟨6, 15, 0, 0, 0, none⟩
  | .hlt => ⟨7, 0, 0, 0, 0, none⟩
  | .inA d => ⟨7, 1, d, 0, 0, none⟩
  | .inB d => ⟨7, 2, d, 0, 0, none⟩
  | .inC d => ⟨7, 3, d, 0, 0, none⟩
  | .outA a => ⟨7, 4, 0, a, 0, none⟩
  | .outB a => ⟨7, 5, 0, a, 0, none⟩
  | .outC a => ⟨7, 6, 0, a, 0, none⟩
  | .nop7_7 => ⟨7, 7, 0, 0, 0, none⟩
  | .nop7_8 => ⟨7, 8, 0, 0, 0, none⟩
  | .nop7_9 => ⟨7, 9, 0, 0, 0, none⟩
  | .nop7_10 => ⟨7, 10, 0, 0, 0, none⟩
  | .nop7_11 => ⟨7, 11, 0, 0, 0, none⟩
  | .nop7_12 => ⟨7, 12, 0, 0, 0, none⟩
  | .nop7_13 => ⟨7, 13, 0, 0, 0, none⟩
  | .nop7_14 => ⟨7, 14, 0, 0, 0, none⟩
  | .nop7_15 => ⟨7, 15, 0, 0, 0, none⟩

/-- The first word of an instruction. -/
def firstWord (i : Instr) : Word :=
  assemble (encodingOf i).cls (encodingOf i).sub (encodingOf i).dst (encodingOf i).srcA (encodingOf i).srcB

/-- The words of an instruction: its first word and, where it has one, its extension word (R90). -/
def encode (i : Instr) : List Word := firstWord i :: (encodingOf i).ext.toList

end Sys2Proof
end

