-- ==== Sys2Proof/Machine/State.lean ====
section
/-! DEFINITION. The machine's state: everything spec/10_state.md R20 lists as "the complete state of the
machine", and three fields of the model's own for what crosses the CORE's interface (R41). Plain data. -/

namespace Sys2Proof.Machine

/-- RAM as (word address, word) pairs, in the canonical form that `Memory.wf` states: the machine has no
bytes, so a cell holds a whole 16-bit word (spec/20_memory.md R60, R63). Log entry 4. -/
abbrev Memory := List (Nat × Word)

/-- The seven phase-flag latches (R33), under their short names. -/
structure Phases where
  /-- `isCurrExt`: an extension word is being consumed this cycle. -/
  ext   : Bool
  /-- `isCurrAddrJsr`: the extension word is being interpreted as an address. -/
  addrJ : Bool
  /-- `isCurrAddrBase`: the same, one half-cycle later. -/
  addrB : Bool
  /-- `isCurrSpChange`: a stack push or pop is in progress. -/
  spc   : Bool
  /-- `isCurrJsr`: the first cycle of JSR. -/
  jsrF  : Bool
  /-- `isCurrRts`: the first cycle of RTS. -/
  rtsF  : Bool
  /-- `regIsCurrAddr`: the address comes from a register. -/
  regA  : Bool
  deriving DecidableEq, Repr

/-- Every phase flag 0: the phase state of an instruction boundary (46_sequencer.md R290). -/
def Phases.none : Phases := ⟨false, false, false, false, false, false, false⟩

/-- What the host has last set on each input port (R45); `Option.none` where it never set one, and the
value an IN samples is then a free draw (92_eei_decisions.md D17; 91_not_in_source.md N9). Log entry 1. -/
structure InputPins where
  a : Option Word
  b : Option Word
  c : Option Word
  deriving DecidableEq, Repr

/-- What the CORE emits to its host: the events that are its only effects besides RAM (D36). -/
inductive Event where
  /-- `OutPort(p, v)`: "port p now shows v" (R46). -/
  | outPort (p : Port) (v : Word)
  /-- A committed write of `word` to the framebuffer word `addr` (20_memory.md R70). The event's x, y
  and colour fields are functions of the two (`pixelX`, `pixelY`, `pixelRed` and its fellows). -/
  | pixel (addr word : Word)
  deriving DecidableEq, Repr

/-- The state of the machine between two ticks. -/
structure State where
  /-- R0 to R7 (R21). -/
  regs         : Vector Word 8
  /-- The program counter (R24). -/
  pc           : Word
  /-- The stack pointer (R26). -/
  sp           : Word
  /-- FLAGS: Z bit 0, N bit 1, C bit 2, V bit 3 (R28). -/
  flags        : BitVec 4
  /-- IR0, the word of the instruction being executed (R30). -/
  ir0          : Word
  /-- IR1, the last extension word (R31). -/
  ir1          : Word
  /-- RAMADDR, the RAM-address latch (R32). -/
  ramaddrLatch : Word
  /-- The phase tracker (R33). -/
  phases       : Phases
  /-- WL, the memory interface's write-request latch (R35). -/
  wl           : Bool
  /-- The physical clock bit (R36). -/
  clk          : Bool
  /-- `ramAddr`, the address of the last RAM read (R37). -/
  ramAddr      : Word
  /-- `ramOut`, the word of the last RAM read (R37). -/
  ramOut       : Word
  /-- The RAM (R38). -/
  mem          : Memory
  /-- The model's own: the input ports as the host set them (R45). -/
  inPins       : InputPins
  /-- The model's own: how many free draws have been made from unset input ports. Log entry 1. -/
  inDraws      : Nat
  /-- The model's own: the events emitted and not yet drained, oldest first (R47). Log entry 3. -/
  events       : List Event
  deriving DecidableEq, Repr

/-- What a HOST operation can fail with (60_exceptions.md R303). The CORE itself has no fault: no step and
no tick answers one (R300, R304). -/
inductive Fault where
  /-- A host access at an address of 65536 or above (20_memory.md R73), raised by `hostRead` and by the
  host action `write`. The state is unchanged. Safe: the spec states this failure. -/
  | invalidAddress (addr : Nat)
  /-- A memory image of the wrong size or with a non-numeric token (20_memory.md R72), raised by the host
  action `loadImage`. The state is unchanged. Safe: the spec states this failure. -/
  | malformedImage
  deriving DecidableEq, Repr

/-- Why an instruction would have no meaning. No instruction of this machine is refused. -/
inductive Refusal where
  /-- An instruction the model gives no meaning yet, raised by `exec`'s arm for it alone: none is left.
  Safe: the machine stops where the hardware goes on. -/
  | notModelled (mnemonic : String)
  deriving DecidableEq, Repr

/-- The machine right after power-on and Reset (70_reset_and_hazards.md R321, R322): SP = 0xFFFF and
everything else 0, with RAM all 0, so that IR0 and ramOut, which take RAM[0], are 0 too. The model's own
fields start with no port set, no draw made and no event. -/
def State.reset : State where
  regs         := Vector.replicate 8 0
  pc           := 0
  sp           := 0xFFFF
  flags        := 0
  ir0          := 0
  ir1          := 0
  ramaddrLatch := 0
  phases       := .none
  wl           := false
  clk          := false
  ramAddr      := 0
  ramOut       := 0
  mem          := []
  inPins       := ⟨Option.none, Option.none, Option.none⟩
  inDraws      := 0
  events       := []

end Sys2Proof.Machine
end

