-- ==== Sys2Proof/Machine/Flags.lean ====
section
/-! DEFINITION. The FLAGS register (spec/10_state.md R28), the flags an ALU operation computes
(spec/40_alu.md R122, R123) and the condition-code multiplexer that reads them
(spec/43_control_transfer.md R190). -/

namespace Sys2Proof.Machine

/-! ## The register -/

/-- FLAGS.Z, bit 0. -/
def flagZ (f : BitVec 4) : Bool := f.getLsbD 0

/-- FLAGS.N, bit 1. -/
def flagN (f : BitVec 4) : Bool := f.getLsbD 1

/-- FLAGS.C, bit 2. -/
def flagC (f : BitVec 4) : Bool := f.getLsbD 2

/-- FLAGS.V, bit 3. -/
def flagV (f : BitVec 4) : Bool := f.getLsbD 3

/-- `{v, c, n, z}` with v in bit 3 (R152, R263). -/
def packFlags (z n c v : Bool) : BitVec 4 :=
  BitVec.ofNat 4 (v.toNat * 8 + c.toNat * 4 + n.toNat * 2 + z.toNat)

/-! ## What an addition or subtraction computes (R123) -/

/-- ADD's carry out of bit 15: the exact sum does not fit 16 bits. -/
def addCarry (a b : Word) : Bool := 0x10000 ≤ a.toNat + b.toNat

/-- ADD's signed overflow, from the sign bits of the operands and the result. -/
def addOverflow (a b r : Word) : Bool := a.msb == b.msb && r.msb != a.msb

/-- SUB's carry is the borrow: a < b unsigned (92_eei_decisions.md D4). -/
def subBorrow (a b : Word) : Bool := a.toNat < b.toNat

/-- SUB's signed overflow, from the sign bits of the operands and the result. -/
def subOverflow (a b r : Word) : Bool := a.msb != b.msb && r.msb != a.msb

/-! ## The condition-code multiplexer (R190) -/

/-- X = N ⊕ V, the signed less-than. -/
def flagX (f : BitVec 4) : Bool := flagN f != flagV f

/-- `Cond(sub, FLAGS)` for subopcodes 0 to 11; there is no entry for the others, which no jump uses. -/
def condition (sub : Nat) (f : BitVec 4) : Bool :=
  match sub with
  | 0 => true
  | 1 => flagC f
  | 2 => !flagC f
  | 3 => flagV f
  | 4 => flagC f || flagV f
  | 5 => !(flagC f || flagV f)
  | 6 => !flagV f
  | 7 => flagX f
  | 8 => flagC f || flagX f
  | 9 => !flagC f && !flagX f
  | 10 => flagX f
  | 11 => true
  | _ => false

end Sys2Proof.Machine
end

