-- ==== Sys2Proof/Machine/Alu.lean ====
section
/-! DEFINITION. The ALU, a pure function of its two operands, its selector and its enable
(spec/40_alu.md R120). -/

namespace Sys2Proof.Machine

/-- What the ALU puts out: the result and the four flag bits. -/
structure AluOut where
  r : Word
  z : Bool
  n : Bool
  c : Bool
  v : Bool
  deriving DecidableEq, Repr

/-- The result of an enabled ALU, by selector (R130). Division and remainder are unsigned and 0 for a zero
divisor (R125, R126); selector 10 is SUB again; 12 to 15 give 0 (R129). -/
def aluResult (a b : Word) (op : BitVec 4) : Word :=
  match op.toNat with
  | 0 => a + b
  | 1 => a - b
  | 2 => a * b
  | 3 => if b = 0 then 0 else BitVec.ofNat 16 (a.toNat / b.toNat)
  | 4 => if b = 0 then 0 else BitVec.ofNat 16 (a.toNat % b.toNat)
  | 5 => a &&& b
  | 6 => a ||| b
  | 7 => ~~~(a &&& b)
  | 8 => ~~~(a ||| b)
  | 9 => a ^^^ b
  | 10 => a - b
  | 11 => ~~~a
  | _ => 0

/-- The carry of an enabled ALU: only ADD and SUB compute one (R122). -/
def aluCarry (a b : Word) (op : BitVec 4) : Bool :=
  match op.toNat with
  | 0 => addCarry a b
  | 1 => subBorrow a b
  | 10 => subBorrow a b
  | _ => false

/-- The overflow of an enabled ALU: only ADD and SUB compute one (R122). -/
def aluOverflow (a b : Word) (op : BitVec 4) : Bool :=
  match op.toNat with
  | 0 => addOverflow a b (a + b)
  | 1 => subOverflow a b (a - b)
  | 10 => subOverflow a b (a - b)
  | _ => false

/-- `Alu(a, b, op, en)` (R120): all zero when disabled (R121), else the result with its flags (R122). -/
def alu (a b : Word) (op : BitVec 4) (en : Bool) : AluOut :=
  if en then
    { r := aluResult a b op
      z := aluResult a b op == 0
      n := (aluResult a b op).msb
      c := aluCarry a b op
      v := aluOverflow a b op }
  else { r := 0, z := false, n := false, c := false, v := false }

end Sys2Proof.Machine
end

