-- ==== Sys2Proof/Machine/Ops.lean ====
section
/-! DEFINITION. The named operations over memory, registers, latches and ports. Every meaning and every
step of the tick machine is written with them.

There is no operation for taking an exception or returning from one: the CORE has no exceptions, no traps
and no interrupts (spec/60_exceptions.md R300, R301). -/

namespace Sys2Proof.Machine

/-! ## The memory array (spec/20_memory.md) -/

/-- What a word of RAM that nothing has written reads as: RAM is all 0 at power-on (R38, R322). -/
def unwrittenWord : Word := 0

/-- `MemRead` on the bare array: the word last stored at `a`, else the power-on word (R61). -/
def Memory.read (m : Memory) (a : Nat) : Word :=
  match m with
  | [] => unwrittenWord
  | (k, v) :: t => if k = a then v else Memory.read t a

/-- `MemWrite` on the bare array: replaces the whole word (R62) and keeps the canonical form. -/
def Memory.write (m : Memory) (a : Nat) (v : Word) : Memory :=
  match m with
  | [] => if v = unwrittenWord then [] else [(a, v)]
  | (k, w) :: t =>
    if a < k then if v = unwrittenWord then (k, w) :: t else (a, v) :: (k, w) :: t
    else if a = k then if v = unwrittenWord then t else (a, v) :: t
    else (k, w) :: Memory.write t a v

/-- The canonical form from address `lo` up: addresses strictly rising and inside the address space, and
no entry equal to what an unlisted address reads as. -/
def Memory.wfFrom (lo : Nat) (m : Memory) : Bool :=
  match m with
  | [] => true
  | (k, v) :: t => lo ≤ k && k < addressSpace && v != unwrittenWord && Memory.wfFrom (k + 1) t

/-- The one canonical form of a memory, so that equal memories are equal data. -/
def Memory.wf (m : Memory) : Bool := Memory.wfFrom 0 m

/-- The memory that holds a list of image tokens from address `a` up, in canonical form (R72). -/
def Memory.ofImage (a : Nat) (ts : List ImageToken) : Memory :=
  match ts with
  | [] => []
  | .word v :: t => if v = unwrittenWord then Memory.ofImage (a + 1) t else (a, v) :: Memory.ofImage (a + 1) t
  | .nonNumeric :: t => Memory.ofImage (a + 1) t

/-! ## The framebuffer region (R66, R70, R71) -/

/-- 0x8000 to 0xBFFF. -/
def inFramebuffer (a : Word) : Bool := 0x8000 ≤ a.toNat && a.toNat ≤ 0xBFFF

/-- The pixel events of a committed write: exactly one inside the framebuffer, none elsewhere (R70). -/
def pixelEvents (a v : Word) : List Event := if inFramebuffer a then [.pixel a v] else []

/-- `x = (addr − 0x8000) mod FB_WIDTH` (R70). -/
def pixelX (a : Word) : Nat := (a.toNat - 0x8000) % Config.fbWidth

/-- `y = (addr − 0x8000) div FB_WIDTH` (R70). -/
def pixelY (a : Word) : Nat := (a.toNat - 0x8000) / Config.fbWidth

/-- The red field of an RGB565 word, bits 15 to 11 (R71). -/
def pixelRed (v : Word) : Nat := bitField v 11 5

/-- The green field of an RGB565 word, bits 10 to 5 (R71). -/
def pixelGreen (v : Word) : Nat := bitField v 5 6

/-- The blue field of an RGB565 word, bits 4 to 0 (R71). -/
def pixelBlue (v : Word) : Nat := bitField v 0 5

/-! ## Reading the state -/

/-- `x[i]` (spec/00_scope.md R10). No register is hard-wired (R21). -/
def State.getReg (s : State) (i : Reg) : Word := s.regs[i]

/-- `MemRead(addr, 1)`: no side effect anywhere (R61). -/
def State.memRead (s : State) (a : Word) : Word := s.mem.read a.toNat

/-- The value the host has set on a port, if any (R45). -/
def InputPins.pin (p : InputPins) (port : Port) : Option Word :=
  match port with
  | .a => p.a
  | .b => p.b
  | .c => p.c

/-- The value an IN would sample now: what the host set, or a free draw where it set nothing (R45). -/
def State.portValue (s : State) (p : Port) : Word :=
  match s.inPins.pin p with
  | some v => v
  | Option.none => Config.inPortDraw p s.inDraws

/-! ## Writing the state -/

/-- `x[i] <- v`. -/
def State.setReg (s : State) (i : Reg) (v : Word) : State := { s with regs := s.regs.set i v }

/-- `PC <- v`. -/
def State.setPc (s : State) (v : Word) : State := { s with pc := v }

/-- `SP <- v`. -/
def State.setSp (s : State) (v : Word) : State := { s with sp := v }

/-- `FLAGS <- f`, all four bits at once (R28). -/
def State.setFlags (s : State) (f : BitVec 4) : State := { s with flags := f }

/-- IR0 takes a fetched instruction word (46_sequencer.md R268). -/
def State.latchIr0 (s : State) (w : Word) : State := { s with ir0 := w }

/-- IR1 takes a fetched extension word (R268). -/
def State.latchIr1 (s : State) (w : Word) : State := { s with ir1 := w }

/-- `RAMADDR <- IR1`, on every active half (R266). -/
def State.latchRamaddr (s : State) : State := { s with ramaddrLatch := s.ir1 }

/-- The RAM read of step 7: the holding pair takes the address and the word (R280). -/
def State.readAhead (s : State) (a : Word) : State := { s with ramAddr := a, ramOut := s.memRead a }

/-- Appends events to those the host has not drained (R47). -/
def State.emit (s : State) (es : List Event) : State := { s with events := s.events ++ es }

/-- The RAM alone: a word replaced, no event (a host write, R73). -/
def State.setWord (s : State) (a v : Word) : State := { s with mem := s.mem.write a.toNat v }

/-- `MemWrite(addr, 1, v)` by the CORE: the word is stored and, inside the framebuffer, one pixel event
is emitted (R62, R70). -/
def State.memWrite (s : State) (a v : Word) : State := (s.setWord a v).emit (pixelEvents a v)

/-- One sample of an input port: a draw is used up where the host set no value (R45; log entry 1). -/
def State.afterSample (s : State) (p : Port) : State :=
  match s.inPins.pin p with
  | some _ => s
  | Option.none => { s with inDraws := s.inDraws + 1 }

/-- `x[i] <- InPort(p)`: the port is sampled once (45_io_system.md R224). -/
def State.input (s : State) (i : Reg) (p : Port) : State := (s.afterSample p).setReg i (s.portValue p)

/-- `OutPort(p, v)`: one event; the CORE keeps no copy (R46). -/
def State.output (s : State) (p : Port) (v : Word) : State := s.emit [.outPort p v]

/-! ## The end of an instruction

What the last cycle of every instruction but HLT leaves in the latches (46_sequencer.md R285): RAMADDR
holds IR1, which every active half copies into it (R266), and IR0 and the holding pair hold the word at
the new PC, read on the last tick (R268, R280). -/

/-- Fetches the next instruction's word: the read-ahead at PC, latched into IR0. -/
def State.fetchNext (s : State) : State := (s.readAhead s.pc).latchIr0 (s.memRead s.pc)

/-- Ends an instruction with PC at `target`. -/
def State.finishAt (s : State) (target : Word) : State := ((s.setPc target).latchRamaddr).fetchNext

/-- Ends a one-word instruction: `PC <- A +16 1` (00_scope.md R11). -/
def State.endOneWord (s : State) : State := s.finishAt (s.pc + 1)

/-- Ends a two-word instruction whose extension word was `ext`: `PC <- A +16 2` (R11). -/
def State.endTwoWords (s : State) (ext : Word) : State := (s.latchIr1 ext).finishAt (s.pc + 2)

/-- Ends a two-word instruction with PC at `target`. -/
def State.endJump (s : State) (ext target : Word) : State := (s.latchIr1 ext).finishAt target

/-- The inert instruction: nothing but `PC <- A +16 1` and the fetch of the next word
(45_io_system.md R220). -/
def execInert (s : State) : State := s.endOneWord

end Sys2Proof.Machine
end

