-- ==== Sys2Proof/Machine/Operands.lean ====
section
/-! DEFINITION. The addressing modes (spec/42_load_store.md R177): absolute, register-indirect and stack,
and no others, with the
stack convention of 44_stack.md. No mode adds a displacement and none changes a base register. -/

namespace Sys2Proof.Machine

/-- Where a data or stack access goes (spec/20_memory.md R69). -/
inductive AddrMode where
  /-- The extension word, used whole (LD, ST; spec/30_encoding.md R93). -/
  | absolute (ext : Word)
  /-- The value of srcB, used whole (STR, LDR). -/
  | indirect (srcB : Reg)
  /-- SP before the instruction (PUSH, JSR). -/
  | pushSlot
  /-- SP +16 1 (POP, RTS). -/
  | popSlot
  deriving DecidableEq, Repr

/-- The effective address of an access, from the state before the instruction. -/
def effectiveAddress (m : AddrMode) (s : State) : Word :=
  match m with
  | .absolute ext => ext
  | .indirect srcB => s.getReg srcB
  | .pushSlot => s.sp
  | .popSlot => s.sp + 1

/-! ## The stack (44_stack.md R213): empty-descending -/

/-- Writes the word at SP, then SP <- SP -16 1. -/
def State.push (s : State) (v : Word) : State := (s.memWrite (effectiveAddress .pushSlot s) v).setSp (s.sp - 1)

/-- The word a pop reads: the one at SP +16 1. -/
def State.top (s : State) : Word := s.memRead (effectiveAddress .popSlot s)

/-- SP <- SP +16 1. -/
def State.drop (s : State) : State := s.setSp (s.sp + 1)

end Sys2Proof.Machine
end

