-- ==== Sys2Proof/Machine/AluInstrs.lean ====
section
/-! DEFINITION. Class 0 and class 1 (spec/41_alu_instructions.md): the ALU operations, CMP, NOT and the inert
words of class 1. -/

namespace Sys2Proof.Machine

/-- A class-0 operation with the ALU enabled: the result goes to x[dst], no flag is written (R140). -/
def aluToReg (op : BitVec 4) (dst srcA srcB : Reg) (s : State) : State :=
  (s.setReg dst (alu (s.getReg srcA) (s.getReg srcB) op true).r).endOneWord

/-- A class-0 operation with the ALU disabled: its output 0 goes to x[dst] (R150, R121). -/
def zeroToReg (dst : Reg) (s : State) : State := (s.setReg dst (alu 0 0 0 false).r).endOneWord

/-- The FLAGS a comparison of two words leaves: those of the subtraction a − b (R152). -/
def compareFlags (a b : Word) : BitVec 4 :=
  packFlags (alu a b 1 true).z (alu a b 1 true).n (alu a b 1 true).c (alu a b 1 true).v

/-- ADD: wraps modulo 2^16 (R140). -/
def execAdd (dst srcA srcB : Reg) (s : State) : Host.Outcome State Fault Refusal :=
  .next (aluToReg 0 dst srcA srcB s)

/-- SUB: wraps modulo 2^16 (R141). -/
def execSub (dst srcA srcB : Reg) (s : State) : Host.Outcome State Fault Refusal :=
  .next (aluToReg 1 dst srcA srcB s)

/-- MUL: the low 16 bits of the product (R142). -/
def execMul (dst srcA srcB : Reg) (s : State) : Host.Outcome State Fault Refusal :=
  .next (aluToReg 2 dst srcA srcB s)

/-- DIV: unsigned, 0 for a zero divisor (R143). -/
def execDiv (dst srcA srcB : Reg) (s : State) : Host.Outcome State Fault Refusal :=
  .next (aluToReg 3 dst srcA srcB s)

/-- MOD: unsigned, 0 for a zero divisor (R144). -/
def execMod (dst srcA srcB : Reg) (s : State) : Host.Outcome State Fault Refusal :=
  .next (aluToReg 4 dst srcA srcB s)

/-- AND: bitwise (R145). -/
def execAnd (dst srcA srcB : Reg) (s : State) : Host.Outcome State Fault Refusal :=
  .next (aluToReg 5 dst srcA srcB s)

/-- OR: bitwise (R146). -/
def execOr (dst srcA srcB : Reg) (s : State) : Host.Outcome State Fault Refusal :=
  .next (aluToReg 6 dst srcA srcB s)

/-- NAND: bitwise (R147). -/
def execNand (dst srcA srcB : Reg) (s : State) : Host.Outcome State Fault Refusal :=
  .next (aluToReg 7 dst srcA srcB s)

/-- NOR: bitwise (R148). -/
def execNor (dst srcA srcB : Reg) (s : State) : Host.Outcome State Fault Refusal :=
  .next (aluToReg 8 dst srcA srcB s)

/-- XOR: bitwise (R149). -/
def execXor (dst srcA srcB : Reg) (s : State) : Host.Outcome State Fault Refusal :=
  .next (aluToReg 9 dst srcA srcB s)

/-- ZERO.10: x[dst] <- 0 (R150). -/
def execZero10 (dst : Reg) (s : State) : Host.Outcome State Fault Refusal :=
  .next (zeroToReg dst s)

/-- ZERO.11: x[dst] <- 0 (R150). -/
def execZero11 (dst : Reg) (s : State) : Host.Outcome State Fault Refusal :=
  .next (zeroToReg dst s)

/-- ZERO.12: x[dst] <- 0 (R150). -/
def execZero12 (dst : Reg) (s : State) : Host.Outcome State Fault Refusal :=
  .next (zeroToReg dst s)

/-- ZERO.13: x[dst] <- 0 (R150). -/
def execZero13 (dst : Reg) (s : State) : Host.Outcome State Fault Refusal :=
  .next (zeroToReg dst s)

/-- ZERO.14: x[dst] <- 0 (R150). -/
def execZero14 (dst : Reg) (s : State) : Host.Outcome State Fault Refusal :=
  .next (zeroToReg dst s)

/-- ZERO.15: x[dst] <- 0 (R150). -/
def execZero15 (dst : Reg) (s : State) : Host.Outcome State Fault Refusal :=
  .next (zeroToReg dst s)

/-- NOP.1.0, inert (R151). -/
def execNop1_0 (s : State) : Host.Outcome State Fault Refusal :=
  .next (execInert s)

/-- NOP.1.1, inert (R151). -/
def execNop1_1 (s : State) : Host.Outcome State Fault Refusal :=
  .next (execInert s)

/-- NOP.1.2, inert (R151). -/
def execNop1_2 (s : State) : Host.Outcome State Fault Refusal :=
  .next (execInert s)

/-- NOP.1.3, inert (R151). -/
def execNop1_3 (s : State) : Host.Outcome State Fault Refusal :=
  .next (execInert s)

/-- NOP.1.4, inert (R151). -/
def execNop1_4 (s : State) : Host.Outcome State Fault Refusal :=
  .next (execInert s)

/-- NOP.1.5, inert (R151). -/
def execNop1_5 (s : State) : Host.Outcome State Fault Refusal :=
  .next (execInert s)

/-- NOP.1.6, inert (R151). -/
def execNop1_6 (s : State) : Host.Outcome State Fault Refusal :=
  .next (execInert s)

/-- NOP.1.7, inert (R151). -/
def execNop1_7 (s : State) : Host.Outcome State Fault Refusal :=
  .next (execInert s)

/-- NOP.1.8, inert (R151). -/
def execNop1_8 (s : State) : Host.Outcome State Fault Refusal :=
  .next (execInert s)

/-- NOP.1.9, inert (R151). -/
def execNop1_9 (s : State) : Host.Outcome State Fault Refusal :=
  .next (execInert s)

/-- CMP: all four flags of x[srcA] − x[srcB], and no register (R152). -/
def execCmp (srcA srcB : Reg) (s : State) : Host.Outcome State Fault Refusal :=
  .next (s.setFlags (compareFlags (s.getReg srcA) (s.getReg srcB))).endOneWord

/-- NOT: x[dst] <- ~x[srcA] (R153). -/
def execNot (dst srcA : Reg) (s : State) : Host.Outcome State Fault Refusal :=
  .next (aluToReg 11 dst srcA srcA s)

/-- NOP.1.12, inert (R151). -/
def execNop1_12 (s : State) : Host.Outcome State Fault Refusal :=
  .next (execInert s)

/-- NOP.1.13, inert (R151). -/
def execNop1_13 (s : State) : Host.Outcome State Fault Refusal :=
  .next (execInert s)

/-- NOP.1.14, inert (R151). -/
def execNop1_14 (s : State) : Host.Outcome State Fault Refusal :=
  .next (execInert s)

/-- NOP.1.15, inert (R151). -/
def execNop1_15 (s : State) : Host.Outcome State Fault Refusal :=
  .next (execInert s)

end Sys2Proof.Machine
end

