-- ==== Sys2Proof/Machine/Control.lean ====
section
/-! DEFINITION. Class 4 (spec/43_control_transfer.md): jumps, call and return, and the inert words of class 4. -/

namespace Sys2Proof.Machine

/-- The form of every class-4 conditional jump: PC takes the target where the condition holds, else it
falls through to A +16 2; the extension word is consumed either way (R192 to R201, R204). -/
def jumpIf (taken : Bool) (target : Word) (s : State) : State :=
  s.endJump target (if taken then target else s.pc + 2)

/-- JMP: condition always (R192). -/
def execJmp (ext : Word) (s : State) : Host.Outcome State Fault Refusal :=
  .next (jumpIf (condition 0 s.flags) ext s)

/-- JC: condition C (R193). -/
def execJc (ext : Word) (s : State) : Host.Outcome State Fault Refusal :=
  .next (jumpIf (condition 1 s.flags) ext s)

/-- JNC: condition ¬C (R194). -/
def execJnc (ext : Word) (s : State) : Host.Outcome State Fault Refusal :=
  .next (jumpIf (condition 2 s.flags) ext s)

/-- JV: condition V (R195). -/
def execJv (ext : Word) (s : State) : Host.Outcome State Fault Refusal :=
  .next (jumpIf (condition 3 s.flags) ext s)

/-- JCV: condition C ∨ V (R196). -/
def execJcv (ext : Word) (s : State) : Host.Outcome State Fault Refusal :=
  .next (jumpIf (condition 4 s.flags) ext s)

/-- JNCV: condition ¬(C ∨ V) (R197). -/
def execJncv (ext : Word) (s : State) : Host.Outcome State Fault Refusal :=
  .next (jumpIf (condition 5 s.flags) ext s)

/-- JNV: condition ¬V (R198). -/
def execJnv (ext : Word) (s : State) : Host.Outcome State Fault Refusal :=
  .next (jumpIf (condition 6 s.flags) ext s)

/-- JLT: condition N ⊕ V (R199). -/
def execJlt (ext : Word) (s : State) : Host.Outcome State Fault Refusal :=
  .next (jumpIf (condition 7 s.flags) ext s)

/-- JCLT: condition C ∨ (N ⊕ V) (R200). -/
def execJclt (ext : Word) (s : State) : Host.Outcome State Fault Refusal :=
  .next (jumpIf (condition 8 s.flags) ext s)

/-- JNCLT: condition ¬C ∧ ¬(N ⊕ V) (R201). -/
def execJnclt (ext : Word) (s : State) : Host.Outcome State Fault Refusal :=
  .next (jumpIf (condition 9 s.flags) ext s)

/-- JLTA: condition N ⊕ V, as JLT (R204). -/
def execJlta (ext : Word) (s : State) : Host.Outcome State Fault Refusal :=
  .next (jumpIf (condition 10 s.flags) ext s)

/-- JSR: A +16 2 is pushed and PC takes the target (R202). -/
def execJsr (ext : Word) (s : State) : Host.Outcome State Fault Refusal :=
  .next ((s.push (s.pc + 2)).endJump ext ext)

/-- RTS: PC takes the word popped from the stack (R203). -/
def execRts (s : State) : Host.Outcome State Fault Refusal :=
  .next (s.drop.finishAt s.top)

/-- NOP.4.13, inert (R205). -/
def execNop4_13 (s : State) : Host.Outcome State Fault Refusal :=
  .next (execInert s)

/-- NOP.4.14, inert (R205). -/
def execNop4_14 (s : State) : Host.Outcome State Fault Refusal :=
  .next (execInert s)

/-- NOP.4.15, inert (R205). -/
def execNop4_15 (s : State) : Host.Outcome State Fault Refusal :=
  .next (execInert s)

end Sys2Proof.Machine
end

