-- ==== Sys2Proof/Machine/IoSystem.lean ====
section
/-! DEFINITION. Class 6 and class 7 (spec/45_io_system.md): the reserved inert words, HLT and port I/O. -/

namespace Sys2Proof.Machine

/-- NOP.6.0, inert (R221). -/
def execNop6_0 (s : State) : Host.Outcome State Fault Refusal :=
  .next (execInert s)

/-- NOP.6.1, inert (R221). -/
def execNop6_1 (s : State) : Host.Outcome State Fault Refusal :=
  .next (execInert s)

/-- NOP.6.2, inert (R221). -/
def execNop6_2 (s : State) : Host.Outcome State Fault Refusal :=
  .next (execInert s)

/-- NOP.6.3, inert (R221). -/
def execNop6_3 (s : State) : Host.Outcome State Fault Refusal :=
  .next (execInert s)

/-- NOP.6.4, inert (R221). -/
def execNop6_4 (s : State) : Host.Outcome State Fault Refusal :=
  .next (execInert s)

/-- NOP.6.5, inert (R221). -/
def execNop6_5 (s : State) : Host.Outcome State Fault Refusal :=
  .next (execInert s)

/-- NOP.6.6, inert (R221). -/
def execNop6_6 (s : State) : Host.Outcome State Fault Refusal :=
  .next (execInert s)

/-- NOP.6.7, inert (R221). -/
def execNop6_7 (s : State) : Host.Outcome State Fault Refusal :=
  .next (execInert s)

/-- NOP.6.8, inert (R221). -/
def execNop6_8 (s : State) : Host.Outcome State Fault Refusal :=
  .next (execInert s)

/-- NOP.6.9, inert (R221). -/
def execNop6_9 (s : State) : Host.Outcome State Fault Refusal :=
  .next (execInert s)

/-- NOP.6.10, inert (R221). -/
def execNop6_10 (s : State) : Host.Outcome State Fault Refusal :=
  .next (execInert s)

/-- NOP.6.11, inert (R221). -/
def execNop6_11 (s : State) : Host.Outcome State Fault Refusal :=
  .next (execInert s)

/-- NOP.6.12, inert (R221). -/
def execNop6_12 (s : State) : Host.Outcome State Fault Refusal :=
  .next (execInert s)

/-- NOP.6.13, inert (R221). -/
def execNop6_13 (s : State) : Host.Outcome State Fault Refusal :=
  .next (execInert s)

/-- NOP.6.14, inert (R221). -/
def execNop6_14 (s : State) : Host.Outcome State Fault Refusal :=
  .next (execInert s)

/-- NOP.6.15, inert (R221). -/
def execNop6_15 (s : State) : Host.Outcome State Fault Refusal :=
  .next (execInert s)

/-- HLT: PC stays at A and no register, flag or memory word changes (R222). The clock is gated off, so what
the ticks go on doing is to read RAM[PC] and latch it into IR0 again (R223, R291): the machine runs on only
if the host has put another word there. -/
def execHlt (s : State) : Host.Outcome State Fault Refusal :=
  .next s.fetchNext

/-- IN.A: x[dst] <- InPort(0) (R224). -/
def execInA (dst : Reg) (s : State) : Host.Outcome State Fault Refusal :=
  .next (s.input dst .a).endOneWord

/-- IN.B: x[dst] <- InPort(1) (R224). -/
def execInB (dst : Reg) (s : State) : Host.Outcome State Fault Refusal :=
  .next (s.input dst .b).endOneWord

/-- IN.C: x[dst] <- InPort(2) (R224). -/
def execInC (dst : Reg) (s : State) : Host.Outcome State Fault Refusal :=
  .next (s.input dst .c).endOneWord

/-- OUT.A: emits OutPort(0, x[srcA]), once at this level (R225). -/
def execOutA (srcA : Reg) (s : State) : Host.Outcome State Fault Refusal :=
  .next (s.output .a (s.getReg srcA)).endOneWord

/-- OUT.B: emits OutPort(1, x[srcA]), once at this level (R225). -/
def execOutB (srcA : Reg) (s : State) : Host.Outcome State Fault Refusal :=
  .next (s.output .b (s.getReg srcA)).endOneWord

/-- OUT.C: emits OutPort(2, x[srcA]), once at this level (R225). -/
def execOutC (srcA : Reg) (s : State) : Host.Outcome State Fault Refusal :=
  .next (s.output .c (s.getReg srcA)).endOneWord

/-- NOP.7.7, inert (R226). -/
def execNop7_7 (s : State) : Host.Outcome State Fault Refusal :=
  .next (execInert s)

/-- NOP.7.8, inert (R226). -/
def execNop7_8 (s : State) : Host.Outcome State Fault Refusal :=
  .next (execInert s)

/-- NOP.7.9, inert (R226). -/
def execNop7_9 (s : State) : Host.Outcome State Fault Refusal :=
  .next (execInert s)

/-- NOP.7.10, inert (R226). -/
def execNop7_10 (s : State) : Host.Outcome State Fault Refusal :=
  .next (execInert s)

/-- NOP.7.11, inert (R226). -/
def execNop7_11 (s : State) : Host.Outcome State Fault Refusal :=
  .next (execInert s)

/-- NOP.7.12, inert (R226). -/
def execNop7_12 (s : State) : Host.Outcome State Fault Refusal :=
  .next (execInert s)

/-- NOP.7.13, inert (R226). -/
def execNop7_13 (s : State) : Host.Outcome State Fault Refusal :=
  .next (execInert s)

/-- NOP.7.14, inert (R226). -/
def execNop7_14 (s : State) : Host.Outcome State Fault Refusal :=
  .next (execInert s)

/-- NOP.7.15, inert (R226). -/
def execNop7_15 (s : State) : Host.Outcome State Fault Refusal :=
  .next (execInert s)

end Sys2Proof.Machine
end

