-- ==== Sys2Proof/Machine/LoadStore.lean ====
section
/-! DEFINITION. Class 2 and class 3 (spec/42_load_store.md): load immediate, loads and stores, and the inert words
of class 3. -/

namespace Sys2Proof.Machine

/-- Every class-2 subopcode: x[dst] <- the extension word (R170, R171). -/
def loadImmediate (dst : Reg) (ext : Word) (s : State) : State := (s.setReg dst ext).endTwoWords ext

/-- LDI (R170). -/
def execLdi (dst : Reg) (ext : Word) (s : State) : Host.Outcome State Fault Refusal :=
  .next (loadImmediate dst ext s)

/-- LDI.1, the same as LDI (R171). -/
def execLdi1 (dst : Reg) (ext : Word) (s : State) : Host.Outcome State Fault Refusal :=
  .next (loadImmediate dst ext s)

/-- LDI.2, the same as LDI (R171). -/
def execLdi2 (dst : Reg) (ext : Word) (s : State) : Host.Outcome State Fault Refusal :=
  .next (loadImmediate dst ext s)

/-- LDI.3, the same as LDI (R171). -/
def execLdi3 (dst : Reg) (ext : Word) (s : State) : Host.Outcome State Fault Refusal :=
  .next (loadImmediate dst ext s)

/-- LDI.4, the same as LDI (R171). -/
def execLdi4 (dst : Reg) (ext : Word) (s : State) : Host.Outcome State Fault Refusal :=
  .next (loadImmediate dst ext s)

/-- LDI.5, the same as LDI (R171). -/
def execLdi5 (dst : Reg) (ext : Word) (s : State) : Host.Outcome State Fault Refusal :=
  .next (loadImmediate dst ext s)

/-- LDI.6, the same as LDI (R171). -/
def execLdi6 (dst : Reg) (ext : Word) (s : State) : Host.Outcome State Fault Refusal :=
  .next (loadImmediate dst ext s)

/-- LDI.7, the same as LDI (R171). -/
def execLdi7 (dst : Reg) (ext : Word) (s : State) : Host.Outcome State Fault Refusal :=
  .next (loadImmediate dst ext s)

/-- LDI.8, the same as LDI (R171). -/
def execLdi8 (dst : Reg) (ext : Word) (s : State) : Host.Outcome State Fault Refusal :=
  .next (loadImmediate dst ext s)

/-- LDI.9, the same as LDI (R171). -/
def execLdi9 (dst : Reg) (ext : Word) (s : State) : Host.Outcome State Fault Refusal :=
  .next (loadImmediate dst ext s)

/-- LDI.10, the same as LDI (R171). -/
def execLdi10 (dst : Reg) (ext : Word) (s : State) : Host.Outcome State Fault Refusal :=
  .next (loadImmediate dst ext s)

/-- LDI.11, the same as LDI (R171). -/
def execLdi11 (dst : Reg) (ext : Word) (s : State) : Host.Outcome State Fault Refusal :=
  .next (loadImmediate dst ext s)

/-- LDI.12, the same as LDI (R171). -/
def execLdi12 (dst : Reg) (ext : Word) (s : State) : Host.Outcome State Fault Refusal :=
  .next (loadImmediate dst ext s)

/-- LDI.13, the same as LDI (R171). -/
def execLdi13 (dst : Reg) (ext : Word) (s : State) : Host.Outcome State Fault Refusal :=
  .next (loadImmediate dst ext s)

/-- LDI.14, the same as LDI (R171). -/
def execLdi14 (dst : Reg) (ext : Word) (s : State) : Host.Outcome State Fault Refusal :=
  .next (loadImmediate dst ext s)

/-- LDI.15, the same as LDI (R171). -/
def execLdi15 (dst : Reg) (ext : Word) (s : State) : Host.Outcome State Fault Refusal :=
  .next (loadImmediate dst ext s)

/-- LD: x[dst] <- the word at the extension-word address (R172). -/
def execLd (dst : Reg) (ext : Word) (s : State) : Host.Outcome State Fault Refusal :=
  .next ((s.setReg dst (s.memRead (effectiveAddress (.absolute ext) s))).endTwoWords ext)

/-- ST: x[srcA] is stored at the extension-word address (R173). -/
def execSt (srcA : Reg) (ext : Word) (s : State) : Host.Outcome State Fault Refusal :=
  .next ((s.memWrite (effectiveAddress (.absolute ext) s) (s.getReg srcA)).endTwoWords ext)

/-- STR: x[srcA] is stored at the address x[srcB] (R174). -/
def execStr (srcA srcB : Reg) (s : State) : Host.Outcome State Fault Refusal :=
  .next (s.memWrite (effectiveAddress (.indirect srcB) s) (s.getReg srcA)).endOneWord

/-- LDR: x[dst] <- the word at the address x[srcB], taken before the write (R175). -/
def execLdr (dst srcB : Reg) (s : State) : Host.Outcome State Fault Refusal :=
  .next (s.setReg dst (s.memRead (effectiveAddress (.indirect srcB) s))).endOneWord

/-- NOP.3.4, inert (R176). -/
def execNop3_4 (s : State) : Host.Outcome State Fault Refusal :=
  .next (execInert s)

/-- NOP.3.5, inert (R176). -/
def execNop3_5 (s : State) : Host.Outcome State Fault Refusal :=
  .next (execInert s)

/-- NOP.3.6, inert (R176). -/
def execNop3_6 (s : State) : Host.Outcome State Fault Refusal :=
  .next (execInert s)

/-- NOP.3.7, inert (R176). -/
def execNop3_7 (s : State) : Host.Outcome State Fault Refusal :=
  .next (execInert s)

/-- NOP.3.8, inert (R176). -/
def execNop3_8 (s : State) : Host.Outcome State Fault Refusal :=
  .next (execInert s)

/-- NOP.3.9, inert (R176). -/
def execNop3_9 (s : State) : Host.Outcome State Fault Refusal :=
  .next (execInert s)

/-- NOP.3.10, inert (R176). -/
def execNop3_10 (s : State) : Host.Outcome State Fault Refusal :=
  .next (execInert s)

/-- NOP.3.11, inert (R176). -/
def execNop3_11 (s : State) : Host.Outcome State Fault Refusal :=
  .next (execInert s)

/-- NOP.3.12, inert (R176). -/
def execNop3_12 (s : State) : Host.Outcome State Fault Refusal :=
  .next (execInert s)

/-- NOP.3.13, inert (R176). -/
def execNop3_13 (s : State) : Host.Outcome State Fault Refusal :=
  .next (execInert s)

/-- NOP.3.14, inert (R176). -/
def execNop3_14 (s : State) : Host.Outcome State Fault Refusal :=
  .next (execInert s)

/-- NOP.3.15, inert (R176). -/
def execNop3_15 (s : State) : Host.Outcome State Fault Refusal :=
  .next (execInert s)

end Sys2Proof.Machine
end

