-- ==== Sys2Proof/Machine/Stack.lean ====
section
/-! DEFINITION. Class 5 (spec/44_stack.md): PUSH and POP. -/

namespace Sys2Proof.Machine

/-- Every class-5 subopcode but 1: x[srcA] is pushed (R210, R212). -/
def pushReg (srcA : Reg) (s : State) : State := (s.push (s.getReg srcA)).endOneWord

/-- PUSH (R210). -/
def execPush (srcA : Reg) (s : State) : Host.Outcome State Fault Refusal :=
  .next (pushReg srcA s)

/-- POP: x[dst] <- the word popped from the stack (R211). -/
def execPop (dst : Reg) (s : State) : Host.Outcome State Fault Refusal :=
  .next (s.drop.setReg dst s.top).endOneWord

/-- PUSH.2, the same as PUSH (R212). -/
def execPush2 (srcA : Reg) (s : State) : Host.Outcome State Fault Refusal :=
  .next (pushReg srcA s)

/-- PUSH.3, the same as PUSH (R212). -/
def execPush3 (srcA : Reg) (s : State) : Host.Outcome State Fault Refusal :=
  .next (pushReg srcA s)

/-- PUSH.4, the same as PUSH (R212). -/
def execPush4 (srcA : Reg) (s : State) : Host.Outcome State Fault Refusal :=
  .next (pushReg srcA s)

/-- PUSH.5, the same as PUSH (R212). -/
def execPush5 (srcA : Reg) (s : State) : Host.Outcome State Fault Refusal :=
  .next (pushReg srcA s)

/-- PUSH.6, the same as PUSH (R212). -/
def execPush6 (srcA : Reg) (s : State) : Host.Outcome State Fault Refusal :=
  .next (pushReg srcA s)

/-- PUSH.7, the same as PUSH (R212). -/
def execPush7 (srcA : Reg) (s : State) : Host.Outcome State Fault Refusal :=
  .next (pushReg srcA s)

/-- PUSH.8, the same as PUSH (R212). -/
def execPush8 (srcA : Reg) (s : State) : Host.Outcome State Fault Refusal :=
  .next (pushReg srcA s)

/-- PUSH.9, the same as PUSH (R212). -/
def execPush9 (srcA : Reg) (s : State) : Host.Outcome State Fault Refusal :=
  .next (pushReg srcA s)

/-- PUSH.10, the same as PUSH (R212). -/
def execPush10 (srcA : Reg) (s : State) : Host.Outcome State Fault Refusal :=
  .next (pushReg srcA s)

/-- PUSH.11, the same as PUSH (R212). -/
def execPush11 (srcA : Reg) (s : State) : Host.Outcome State Fault Refusal :=
  .next (pushReg srcA s)

/-- PUSH.12, the same as PUSH (R212). -/
def execPush12 (srcA : Reg) (s : State) : Host.Outcome State Fault Refusal :=
  .next (pushReg srcA s)

/-- PUSH.13, the same as PUSH (R212). -/
def execPush13 (srcA : Reg) (s : State) : Host.Outcome State Fault Refusal :=
  .next (pushReg srcA s)

/-- PUSH.14, the same as PUSH (R212). -/
def execPush14 (srcA : Reg) (s : State) : Host.Outcome State Fault Refusal :=
  .next (pushReg srcA s)

/-- PUSH.15, the same as PUSH (R212). -/
def execPush15 (srcA : Reg) (s : State) : Host.Outcome State Fault Refusal :=
  .next (pushReg srcA s)

end Sys2Proof.Machine
end

