-- ==== Sys2Proof/Machine/Dispatch.lean ====
section
/-! DEFINITION. `exec`: one arm per instruction, each a direct call of its meaning. -/

namespace Sys2Proof.Machine

def exec (i : Instr) (s : State) : Host.Outcome State Fault Refusal :=
  match i with
  -- class 0, register ALU operations (41_alu_instructions.md)
  | .add dst srcA srcB => Sys2Proof.Machine.execAdd dst srcA srcB s
  | .sub dst srcA srcB => Sys2Proof.Machine.execSub dst srcA srcB s
  | .mul dst srcA srcB => Sys2Proof.Machine.execMul dst srcA srcB s
  | .div dst srcA srcB => Sys2Proof.Machine.execDiv dst srcA srcB s
  | .mod dst srcA srcB => Sys2Proof.Machine.execMod dst srcA srcB s
  | .and dst srcA srcB => Sys2Proof.Machine.execAnd dst srcA srcB s
  | .or dst srcA srcB => Sys2Proof.Machine.execOr dst srcA srcB s
  | .nand dst srcA srcB => Sys2Proof.Machine.execNand dst srcA srcB s
  | .nor dst srcA srcB => Sys2Proof.Machine.execNor dst srcA srcB s
  | .xor dst srcA srcB => Sys2Proof.Machine.execXor dst srcA srcB s
  | .zero10 dst => Sys2Proof.Machine.execZero10 dst s
  | .zero11 dst => Sys2Proof.Machine.execZero11 dst s
  | .zero12 dst => Sys2Proof.Machine.execZero12 dst s
  | .zero13 dst => Sys2Proof.Machine.execZero13 dst s
  | .zero14 dst => Sys2Proof.Machine.execZero14 dst s
  | .zero15 dst => Sys2Proof.Machine.execZero15 dst s
  -- class 1, compare, NOT and inert words (41_alu_instructions.md)
  | .nop1_0 => Sys2Proof.Machine.execNop1_0 s
  | .nop1_1 => Sys2Proof.Machine.execNop1_1 s
  | .nop1_2 => Sys2Proof.Machine.execNop1_2 s
  | .nop1_3 => Sys2Proof.Machine.execNop1_3 s
  | .nop1_4 => Sys2Proof.Machine.execNop1_4 s
  | .nop1_5 => Sys2Proof.Machine.execNop1_5 s
  | .nop1_6 => Sys2Proof.Machine.execNop1_6 s
  | .nop1_7 => Sys2Proof.Machine.execNop1_7 s
  | .nop1_8 => Sys2Proof.Machine.execNop1_8 s
  | .nop1_9 => Sys2Proof.Machine.execNop1_9 s
  | .cmp srcA srcB => Sys2Proof.Machine.execCmp srcA srcB s
  | .not dst srcA => Sys2Proof.Machine.execNot dst srcA s
  | .nop1_12 => Sys2Proof.Machine.execNop1_12 s
  | .nop1_13 => Sys2Proof.Machine.execNop1_13 s
  | .nop1_14 => Sys2Proof.Machine.execNop1_14 s
  | .nop1_15 => Sys2Proof.Machine.execNop1_15 s
  -- class 2, load immediate (42_load_store.md)
  | .ldi dst ext => Sys2Proof.Machine.execLdi dst ext s
  | .ldi1 dst ext => Sys2Proof.Machine.execLdi1 dst ext s
  | .ldi2 dst ext => Sys2Proof.Machine.execLdi2 dst ext s
  | .ldi3 dst ext => Sys2Proof.Machine.execLdi3 dst ext s
  | .ldi4 dst ext => Sys2Proof.Machine.execLdi4 dst ext s
  | .ldi5 dst ext => Sys2Proof.Machine.execLdi5 dst ext s
  | .ldi6 dst ext => Sys2Proof.Machine.execLdi6 dst ext s
  | .ldi7 dst ext => Sys2Proof.Machine.execLdi7 dst ext s
  | .ldi8 dst ext => Sys2Proof.Machine.execLdi8 dst ext s
  | .ldi9 dst ext => Sys2Proof.Machine.execLdi9 dst ext s
  | .ldi10 dst ext => Sys2Proof.Machine.execLdi10 dst ext s
  | .ldi11 dst ext => Sys2Proof.Machine.execLdi11 dst ext s
  | .ldi12 dst ext => Sys2Proof.Machine.execLdi12 dst ext s
  | .ldi13 dst ext => Sys2Proof.Machine.execLdi13 dst ext s
  | .ldi14 dst ext => Sys2Proof.Machine.execLdi14 dst ext s
  | .ldi15 dst ext => Sys2Proof.Machine.execLdi15 dst ext s
  -- class 3, memory access (42_load_store.md)
  | .ld dst ext => Sys2Proof.Machine.execLd dst ext s
  | .st srcA ext => Sys2Proof.Machine.execSt srcA ext s
  | .str srcA srcB => Sys2Proof.Machine.execStr srcA srcB s
  | .ldr dst srcB => Sys2Proof.Machine.execLdr dst srcB s
  | .nop3_4 => Sys2Proof.Machine.execNop3_4 s
  | .nop3_5 => Sys2Proof.Machine.execNop3_5 s
  | .nop3_6 => Sys2Proof.Machine.execNop3_6 s
  | .nop3_7 => Sys2Proof.Machine.execNop3_7 s
  | .nop3_8 => Sys2Proof.Machine.execNop3_8 s
  | .nop3_9 => Sys2Proof.Machine.execNop3_9 s
  | .nop3_10 => Sys2Proof.Machine.execNop3_10 s
  | .nop3_11 => Sys2Proof.Machine.execNop3_11 s
  | .nop3_12 => Sys2Proof.Machine.execNop3_12 s
  | .nop3_13 => Sys2Proof.Machine.execNop3_13 s
  | .nop3_14 => Sys2Proof.Machine.execNop3_14 s
  | .nop3_15 => Sys2Proof.Machine.execNop3_15 s
  -- class 4, jumps, call and return (43_control_transfer.md)
  | .jmp ext => Sys2Proof.Machine.execJmp ext s
  | .jc ext => Sys2Proof.Machine.execJc ext s
  | .jnc ext => Sys2Proof.Machine.execJnc ext s
  | .jv ext => Sys2Proof.Machine.execJv ext s
  | .jcv ext => Sys2Proof.Machine.execJcv ext s
  | .jncv ext => Sys2Proof.Machine.execJncv ext s
  | .jnv ext => Sys2Proof.Machine.execJnv ext s
  | .jlt ext => Sys2Proof.Machine.execJlt ext s
  | .jclt ext => Sys2Proof.Machine.execJclt ext s
  | .jnclt ext => Sys2Proof.Machine.execJnclt ext s
  | .jlta ext => Sys2Proof.Machine.execJlta ext s
  | .jsr ext => Sys2Proof.Machine.execJsr ext s
  | .rts => Sys2Proof.Machine.execRts s
  | .nop4_13 => Sys2Proof.Machine.execNop4_13 s
  | .nop4_14 => Sys2Proof.Machine.execNop4_14 s
  | .nop4_15 => Sys2Proof.Machine.execNop4_15 s
  -- class 5, stack (44_stack.md)
  | .push srcA => Sys2Proof.Machine.execPush srcA s
  | .pop dst => Sys2Proof.Machine.execPop dst s
  | .push2 srcA => Sys2Proof.Machine.execPush2 srcA s
  | .push3 srcA => Sys2Proof.Machine.execPush3 srcA s
  | .push4 srcA => Sys2Proof.Machine.execPush4 srcA s
  | .push5 srcA => Sys2Proof.Machine.execPush5 srcA s
  | .push6 srcA => Sys2Proof.Machine.execPush6 srcA s
  | .push7 srcA => Sys2Proof.Machine.execPush7 srcA s
  | .push8 srcA => Sys2Proof.Machine.execPush8 srcA s
  | .push9 srcA => Sys2Proof.Machine.execPush9 srcA s
  | .push10 srcA => Sys2Proof.Machine.execPush10 srcA s
  | .push11 srcA => Sys2Proof.Machine.execPush11 srcA s
  | .push12 srcA => Sys2Proof.Machine.execPush12 srcA s
  | .push13 srcA => Sys2Proof.Machine.execPush13 srcA s
  | .push14 srcA => Sys2Proof.Machine.execPush14 srcA s
  | .push15 srcA => Sys2Proof.Machine.execPush15 srcA s
  -- class 6, reserved and inert (45_io_system.md)
  | .nop6_0 => Sys2Proof.Machine.execNop6_0 s
  | .nop6_1 => Sys2Proof.Machine.execNop6_1 s
  | .nop6_2 => Sys2Proof.Machine.execNop6_2 s
  | .nop6_3 => Sys2Proof.Machine.execNop6_3 s
  | .nop6_4 => Sys2Proof.Machine.execNop6_4 s
  | .nop6_5 => Sys2Proof.Machine.execNop6_5 s
  | .nop6_6 => Sys2Proof.Machine.execNop6_6 s
  | .nop6_7 => Sys2Proof.Machine.execNop6_7 s
  | .nop6_8 => Sys2Proof.Machine.execNop6_8 s
  | .nop6_9 => Sys2Proof.Machine.execNop6_9 s
  | .nop6_10 => Sys2Proof.Machine.execNop6_10 s
  | .nop6_11 => Sys2Proof.Machine.execNop6_11 s
  | .nop6_12 => Sys2Proof.Machine.execNop6_12 s
  | .nop6_13 => Sys2Proof.Machine.execNop6_13 s
  | .nop6_14 => Sys2Proof.Machine.execNop6_14 s
  | .nop6_15 => Sys2Proof.Machine.execNop6_15 s
  -- class 7, halt and port I/O (45_io_system.md)
  | .hlt => Sys2Proof.Machine.execHlt s
  | .inA dst => Sys2Proof.Machine.execInA dst s
  | .inB dst => Sys2Proof.Machine.execInB dst s
  | .inC dst => Sys2Proof.Machine.execInC dst s
  | .outA srcA => Sys2Proof.Machine.execOutA srcA s
  | .outB srcA => Sys2Proof.Machine.execOutB srcA s
  | .outC srcA => Sys2Proof.Machine.execOutC srcA s
  | .nop7_7 => Sys2Proof.Machine.execNop7_7 s
  | .nop7_8 => Sys2Proof.Machine.execNop7_8 s
  | .nop7_9 => Sys2Proof.Machine.execNop7_9 s
  | .nop7_10 => Sys2Proof.Machine.execNop7_10 s
  | .nop7_11 => Sys2Proof.Machine.execNop7_11 s
  | .nop7_12 => Sys2Proof.Machine.execNop7_12 s
  | .nop7_13 => Sys2Proof.Machine.execNop7_13 s
  | .nop7_14 => Sys2Proof.Machine.execNop7_14 s
  | .nop7_15 => Sys2Proof.Machine.execNop7_15 s

end Sys2Proof.Machine
end

