-- ==== Sys2Proof/Machine/Sequencer.lean ====
section
/-! DEFINITION. The tick machine (spec/46_sequencer.md): the decoder's control bundle, the phase tracker,
the register file, the memory-address arbiter and `tick`, one half-cycle. `exec` says what an instruction
leaves at the next instruction boundary; this file says how the ticks get there. -/

namespace Sys2Proof.Machine

/-! ## The decoder (R240, R241) -/

/-- The control bundle; the signals' meanings are R242's. -/
structure Controls where
  aluOp           : BitVec 4
  aluEn           : Bool
  regWrite        : Bool
  aluWb           : Bool
  flagsWrite      : Bool
  isNxtExt        : Bool
  containsAddress : Bool
  regIsAddress    : Bool
  memWrite        : Bool
  memToReg        : Bool
  loadPC          : Bool
  jsr             : Bool
  rts             : Bool
  spChange        : Bool
  spPop           : Bool
  useIn           : Bool
  useOut          : Bool
  ioPort          : Port
  hlt             : Bool
  dst             : Reg
  srcA            : Reg
  srcB            : Reg
  deriving DecidableEq, Repr

/-- The inert bundle, "ALU disabled, no writes, no addressing", with the register fields, which are always
extracted (R240, R241). -/
def inertControls (w : Word) : Controls where
  aluOp           := 0
  aluEn           := false
  regWrite        := false
  aluWb           := false
  flagsWrite      := false
  isNxtExt        := false
  containsAddress := false
  regIsAddress    := false
  memWrite        := false
  memToReg        := false
  loadPC          := false
  jsr             := false
  rts             := false
  spChange        := false
  spPop           := false
  useIn           := false
  useOut          := false
  ioPort          := .a
  hlt             := false
  dst             := dstField w
  srcA            := srcAField w
  srcB            := srcBField w

/-- The port of an I/O subopcode: A = 0, B = 1, C = 2 (R241, R45). -/
def portOf (n : Nat) : Port :=
  match n with
  | 0 => .a
  | 1 => .b
  | _ => .c

/-- The class-0 rows of R241. -/
def controlsClass0 (sub : Nat) (e : Controls) : Controls :=
  if sub ≤ 9 then { e with aluOp := BitVec.ofNat 4 sub, aluEn := true, regWrite := true, aluWb := true }
  else { e with regWrite := true, aluWb := true }

/-- The class-1 rows of R241: CMP, NOT, and inert otherwise. -/
def controlsClass1 (sub : Nat) (e : Controls) : Controls :=
  match sub with
  | 10 => { e with aluOp := 1, aluEn := true, flagsWrite := true }
  | 11 => { e with aluOp := 11, aluEn := true, regWrite := true, aluWb := true }
  | _ => e

/-- The class-3 rows of R241: LD, ST, STR, LDR, and inert otherwise (90_conflicts.md C3). -/
def controlsClass3 (sub : Nat) (e : Controls) : Controls :=
  match sub with
  | 0 => { e with containsAddress := true, isNxtExt := true, memToReg := true, regWrite := true }
  | 1 => { e with containsAddress := true, isNxtExt := true, memWrite := true }
  | 2 => { e with containsAddress := true, regIsAddress := true, memWrite := true }
  | 3 => { e with containsAddress := true, regIsAddress := true, memToReg := true, regWrite := true }
  | _ => e

/-- The class-4 rows of R241: the conditional jumps, JSR, RTS, and inert otherwise (C3). -/
def controlsClass4 (sub : Nat) (f : BitVec 4) (e : Controls) : Controls :=
  if sub ≤ 10 then { e with loadPC := true, isNxtExt := true, containsAddress := condition sub f }
  else if sub = 11 then
    { e with loadPC := true, isNxtExt := true, containsAddress := true, jsr := true, spChange := true }
  else if sub = 12 then { e with loadPC := true, rts := true, spPop := true, spChange := true }
  else e

/-- The class-5 rows of R241: POP, and PUSH for every other subopcode. -/
def controlsClass5 (sub : Nat) (e : Controls) : Controls :=
  match sub with
  | 1 => { e with spChange := true, spPop := true, regWrite := true, containsAddress := true, memToReg := true }
  | _ => { e with spChange := true }

/-- The class-7 rows of R241: HLT, IN, OUT, and inert otherwise. -/
def controlsClass7 (sub : Nat) (e : Controls) : Controls :=
  if sub = 0 then { e with hlt := true }
  else if sub ≤ 3 then { e with useIn := true, regWrite := true, ioPort := portOf (sub - 1) }
  else if sub ≤ 6 then { e with useOut := true, ioPort := portOf (sub - 4) }
  else e

/-- `decode(instruction, flags)`: pure and total (R240), row by row as R241's table. -/
def controls (w : Word) (f : BitVec 4) : Controls :=
  match classField w with
  | 0 => controlsClass0 (subField w) (inertControls w)
  | 1 => controlsClass1 (subField w) (inertControls w)
  | 2 => { inertControls w with isNxtExt := true, regWrite := true }
  | 3 => controlsClass3 (subField w) (inertControls w)
  | 4 => controlsClass4 (subField w) f (inertControls w)
  | 5 => controlsClass5 (subField w) (inertControls w)
  | 6 => inertControls w
  | _ => controlsClass7 (subField w) (inertControls w)

/-! ## The phase tracker (R250) -/

/-- `first`: no phase flag is set, the first half-cycle of an instruction. -/
def Phases.first (p : Phases) : Bool :=
  !(p.ext || p.addrJ || p.addrB || p.spc || p.jsrF || p.rtsF || p.regA)

/-- `isCurrAddr`, the derived eighth flag (10_state.md R33). -/
def Phases.currAddr (p : Phases) : Bool := p.addrB || p.addrJ

/-- The phase update of step 4: six flags move on the active half, `isCurrAddrBase` on the idle half. -/
def nextPhases (p : Phases) (d : Controls) (c : Bool) : Phases :=
  if c then
    { ext   := p.first && d.isNxtExt
      jsrF  := p.first && d.jsr
      addrJ := p.ext && d.containsAddress && !d.loadPC
      spc   := (p.first && d.spChange && !d.jsr) || p.jsrF
      rtsF  := p.first && d.rts
      regA  := p.first && d.regIsAddress
      addrB := p.addrB }
  else { p with addrB := p.addrJ && d.containsAddress && !d.jsr }

/-! ## The register file, step 5 (R260 to R266)

Each new value is a function of the state at the start of the tick (R282). -/

/-- The active-half write of a general register: an ALU result or an input port (R262, first part). -/
def activeRegWrite (s : State) (d : Controls) : State :=
  if s.phases.first && d.regWrite && (d.aluWb || d.useIn) then
    if d.useIn then s.input d.dst d.ioPort
    else s.setReg d.dst (alu (s.getReg d.srcA) (s.getReg d.srcB) d.aluOp d.aluEn).r
  else s

/-- Whether an idle half writes the word read by the last tick to a general register: the four terms of
R262 are LDI, LD, LDR and POP. -/
def memoryDataCycle (p : Phases) (d : Controls) : Bool :=
  (p.ext && !d.containsAddress && !d.memToReg) || (p.addrJ && d.memToReg) || (p.regA && d.memToReg)
    || (p.spc && d.spPop && !d.rts)

/-- The idle-half write of a general register (R262, second part). -/
def idleRegWrite (s : State) (d : Controls) : State :=
  if d.regWrite && memoryDataCycle s.phases d then s.setReg d.dst s.ramOut else s

/-- FLAGS after an active half (R263). -/
def nextFlags (s : State) (d : Controls) : BitVec 4 :=
  if s.phases.first && d.flagsWrite then
    let o := alu (s.getReg d.srcA) (s.getReg d.srcB) d.aluOp d.aluEn
    packFlags o.z o.n o.c o.v
  else s.flags

/-- PC after an active half: the first case that applies (R264). -/
def nextPc (s : State) (d : Controls) : Word :=
  if s.phases.first then if d.rts then s.pc else s.pc + 1
  else if s.phases.ext then if d.loadPC && !d.jsr && d.containsAddress then s.ir1 else s.pc + 1
  else if s.phases.spc && d.jsr then s.ir1
  else if s.phases.rtsF then s.ramOut
  else s.pc

/-- SP after an active half (R265). -/
def nextSp (s : State) (d : Controls) : Word :=
  if s.phases.first && d.spChange && d.spPop then s.sp + 1
  else if s.phases.spc && !d.spPop then s.sp - 1
  else s.sp

/-- Step 5: on an active half every domain of the register file, on an idle half the memory-data write. -/
def registerStep (s : State) (d : Controls) (c : Bool) : State :=
  if c then
    ((((activeRegWrite s d).setFlags (nextFlags s d)).setPc (nextPc s d)).setSp (nextSp s d)).latchRamaddr
  else idleRegWrite s d

/-! ## The memory-address arbiter, steps 6 and 7 (R275 to R280) -/

/-- The address mux (R276), over the registers of `s`. -/
def arbiterAddress (p : Phases) (e : Controls) (s : State) : Word :=
  if p.spc then s.sp
  else if p.regA then s.getReg e.srcB
  else if p.currAddr && !e.loadPC then s.ramaddrLatch
  else s.pc

/-- `writeToRAM`: the write latch, a register-indirect store, or a push (R277). -/
def writeRequest (p : Phases) (d : Controls) (s : State) : Bool :=
  s.wl || (p.regA && d.memWrite) || (p.spc && !d.spPop)

/-- `ramClock`: the gated clock, inverted during a stack access (R278). -/
def ramClock (p : Phases) (c : Bool) : Bool := if p.spc then !c else c

/-- The word written: the return address during a JSR, else x[srcA] (R277). -/
def writeData (d : Controls) (s : State) : Word := if d.jsr then s.pc else s.getReg d.srcA

/-- The RAM write of step 6, with the old phase flags and decode, over the registers after step 5. -/
def ramWriteStep (p : Phases) (d : Controls) (c : Bool) (s : State) : State :=
  if writeRequest p d s && ramClock p c then s.memWrite (arbiterAddress p d s) (writeData d s) else s

/-- The write latch at the end of step 6 (R279): `n` is the new phase state. -/
def nextWl (wl : Bool) (d : Controls) (n : Phases) (c : Bool) : Bool :=
  if c then wl && !n.ext else d.memWrite && n.currAddr && !n.ext

/-- WL <- v. -/
def State.setWl (s : State) (v : Bool) : State := { s with wl := v }

/-- The RAM read of step 7, with the new phase flags and the re-decode (R280). -/
def ramReadStep (n : Phases) (d2 : Controls) (s : State) : State := s.readAhead (arbiterAddress n d2 s)

/-! ## The instruction latches, step 8 (R268) -/

/-- On an idle half IR1 takes an extension word, and IR0 an instruction word unless a data phase is on. -/
def latchStep (n : Phases) (c : Bool) (s : State) : State :=
  if c then s
  else if n.ext then s.latchIr1 s.ramOut
  else if n.spc || n.regA || n.addrJ || n.addrB then s
  else s.latchIr0 s.ramOut

/-! ## The output port, step 9 (R283) -/

/-- An OUT's event, on each of its ticks. -/
def portStep (d2 : Controls) (s : State) : State :=
  if d2.useOut then s.output d2.ioPort (s.getReg d2.srcA) else s

/-- The clock bit and the phase tracker take their new values. -/
def State.setClock (s : State) (clk : Bool) (n : Phases) : State := { s with clk := clk, phases := n }

/-! ## Tick (R281) -/

/-- Steps 5 to 9 of a tick whose decode is `d` and whose gated clock is `c`. -/
def tickWith (s : State) (d : Controls) (c : Bool) : State :=
  let n := nextPhases s.phases d c
  let s5 := registerStep s d c
  let s6 := (ramWriteStep s.phases d c s5).setWl (nextWl s.wl d n c)
  let d2 := controls s6.ir0 s6.flags
  let s7 := ramReadStep n d2 s6
  let s8 := latchStep n c s7
  (portStep d2 s8).setClock (!s.clk) n

/-- `Tick`: one half-cycle. The gated clock is `clockBit ∧ ¬HLT` (step 2). Total: a tick never fails
(60_exceptions.md R304). -/
def tick (s : State) : State :=
  let d := controls s.ir0 s.flags
  tickWith s d (!s.clk && !d.hlt)

/-- `n` ticks, one after another (10_state.md R43). -/
def tickN (n : Nat) (s : State) : State :=
  match n with
  | 0 => s
  | k + 1 => tickN k (tick s)

/-! ## Boundaries (R290) -/

/-- An instruction boundary: the clock bit is 0 and every phase flag is 0 (R290). -/
def atBoundary (s : State) : Bool := !s.clk && s.phases.first

/-- A boundary with no write pending. Every boundary a tick or Reset leaves is one (R279, R321). -/
def quiescent (s : State) : Bool := atBoundary s && !s.wl

/-- Whether a word is HLT: class 7, subopcode 0 (45_io_system.md R222). -/
def isHlt (w : Word) : Bool := classField w == 7 && subField w == 0

/-- The halted state: a HLT word in IR0 and no phase flag set (R222, R223). Either value of the clock bit
will do, because it goes on toggling while the CORE is halted (R291). Log entry 7. -/
def halted (s : State) : Bool := s.phases.first && isHlt s.ir0

/-- Ticks until the next boundary, at most `fuel` of them. -/
def runToBoundary (fuel : Nat) (s : State) : State :=
  match fuel with
  | 0 => s
  | k + 1 => if atBoundary (tick s) then tick s else runToBoundary k (tick s)

/-- The longest instruction's ticks (R286). -/
def longestInstruction : Nat := 6

/-- How many ticks the instruction with this first word takes (R286); HLT never ends, and 2 is one clock
cycle of its halted ticks. -/
def instrTicks (w : Word) : Nat :=
  match classField w with
  | 2 => 4
  | 3 => if subField w ≤ 1 then 6 else if subField w ≤ 3 then 4 else 2
  | 4 => if subField w ≤ 10 then 4 else if subField w = 11 then 6 else if subField w = 12 then 4 else 2
  | 5 => 4
  | _ => 2

end Sys2Proof.Machine
end

