-- ==== Sys2Proof/Machine/Fetch.lean ====
section
/-! DEFINITION. Where an instruction's words come from at a boundary: the instruction word is in IR0,
fetched by the last tick of the instruction before (spec/46_sequencer.md R290), and the extension word is
the word after PC (spec/20_memory.md R64). -/

namespace Sys2Proof.Machine

/-- The extension word an instruction at PC would take: the word at A +16 1, wrapping at 0xFFFF (R64). -/
def extensionWord (s : State) : Word := s.memRead (s.pc + 1)

/-- The instruction a boundary state holds: IR0 decoded, with the extension word that follows PC. -/
def fetched (s : State) : Instr := decodePair s.ir0 (extensionWord s)

/-- The words of an instruction stored at PC, IR0 primed with the first, and no instruction in flight. -/
def placeInstruction (s : State) (bits : Nat) : State :=
  ((((s.setWord s.pc (BitVec.ofNat 16 bits)).setWord (s.pc + 1) (BitVec.ofNat 16 (bits / 2 ^ 16))).latchIr0
    (BitVec.ofNat 16 bits)).setWl false).setClock false .none

end Sys2Proof.Machine
end

