-- ==== Sys2Proof/Machine/Step.lean ====
section
/-! DEFINITION. One step of the machine: one instruction, from one instruction boundary to the next
(spec/46_sequencer.md R290, R292). -/

namespace Sys2Proof.Machine

/-- At a boundary, the step executes the instruction in IR0 with the extension word that follows PC. In
the middle of an instruction, it lets the ticks finish that instruction. -/
def step (s : State) : Host.Outcome State Fault Refusal :=
  if quiescent s then exec (fetched s) s else .next (runToBoundary longestInstruction s)

/-- `s` with the instruction whose bits are `w` where the next step takes it from: its two words in RAM at
PC, its first word in IR0, and no instruction in flight. It stands for an image load followed by the
priming of IR0 that Reset does (spec/70_reset_and_hazards.md R320, R325). Log entry 5. -/
def State.withFetchWord (s : State) (nbits w : Nat) : State := placeInstruction s (w % 2 ^ nbits)

end Sys2Proof.Machine
end

