-- ==== Sys2Proof/Machine/Run.lean ====
section
/-! DEFINITION. Runs and how they end (spec/45_io_system.md R223; 92_eei_decisions.md D8): "when it reaches the
halted state or when the host stops ticking". The host's outcome of a step has no halted status, so the
status stands beside the state here. -/

namespace Sys2Proof.Machine

/-- How a run stands: the halted state is the only end the CORE itself signals (R223). -/
inductive RunStatus where
  /-- The CORE is not halted: the run is over only because the host stopped ticking. -/
  | running
  /-- The CORE is in the halted state, which lasts until Reset. -/
  | halted
  deriving DecidableEq, Repr

/-- A state with its status. -/
structure RunResult where
  state  : State
  status : RunStatus
  deriving DecidableEq, Repr

/-- The status the CORE signals in a state. -/
def State.status (s : State) : RunStatus := if halted s then .halted else .running

/-- A state with the status the CORE signals in it. -/
def State.result (s : State) : RunResult := ⟨s, s.status⟩

/-- A step with its status: on a HLT it "returns a halted status and leaves the state unchanged" (D8). -/
def stepStatus (s : State) : Host.Outcome RunResult Fault Refusal :=
  match step s with
  | .next t => .next t.result
  | .fault r => .fault r
  | .refused r => .refused r

/-- At most `n` ticks, ending where the CORE halts (R223). -/
def tickRun (n : Nat) (s : State) : RunResult :=
  match n with
  | 0 => s.result
  | k + 1 => if halted s then s.result else tickRun k (tick s)

/-- At most `n` steps, ending where the CORE halts (R223). -/
def stepRun (n : Nat) (s : State) : Host.Outcome RunResult Fault Refusal :=
  match n with
  | 0 => .next s.result
  | k + 1 =>
    if halted s then .next s.result
    else
      match step s with
      | .next t => stepRun k t
      | .fault r => .fault r
      | .refused r => .refused r

end Sys2Proof.Machine
end

