-- ==== Sys2Proof/Machine/HostPort.lean ====
section
/-! DEFINITION. What the host may do between two ticks (spec/10_state.md R41, R42): Tick, RunFrame, Reset,
image load, single-word access, setting an input port, draining the events. A failed host operation leaves
the state unchanged (spec/60_exceptions.md R303). -/

namespace Sys2Proof.Machine

/-- What a host action leaves: the state, and the failure it reports if it fails. -/
structure HostResult where
  state  : State
  failed : Option Fault
  deriving DecidableEq, Repr

/-- Reset followed by Init (70_reset_and_hazards.md R320): every register, latch and phase flag, IR0 and
ramOut primed from RAM[0]. RAM, the input ports and the events the host holds stay (R321). -/
def resetMachine (s : State) : State :=
  { State.reset with
    ir0     := s.memRead 0
    ramOut  := s.memRead 0
    mem     := s.mem
    inPins  := s.inPins
    inDraws := s.inDraws
    events  := s.events }

/-- A host read of one word: an address of 65536 or above fails (20_memory.md R73). -/
def hostRead (s : State) (addr : Nat) : Except Fault Word :=
  if addr < addressSpace then .ok (s.memRead (BitVec.ofNat 16 addr)) else .error (.invalidAddress addr)

/-- A host write of one word: no register, latch or phase flag changes and no pixel event is emitted (R73). -/
def hostWrite (s : State) (addr : Nat) (v : Word) : HostResult :=
  if addr < addressSpace then ⟨s.setWord (BitVec.ofNat 16 addr) v, Option.none⟩
  else ⟨s, some (.invalidAddress addr)⟩

/-- An image load: all of RAM at once and nothing else, or a rejection that leaves RAM untouched (R72). -/
def loadImage (s : State) (ts : List ImageToken) : HostResult :=
  if imageWellFormed ts then ⟨{ s with mem := Memory.ofImage 0 ts }, Option.none⟩ else ⟨s, some .malformedImage⟩

/-- One input port of the pins set. -/
def InputPins.set (pins : InputPins) (p : Port) (v : Word) : InputPins :=
  match p with
  | .a => { pins with a := some v }
  | .b => { pins with b := some v }
  | .c => { pins with c := some v }

/-- The host sets an input port (R45, 70_reset_and_hazards.md R332). -/
def setInputPort (s : State) (p : Port) (v : Word) : State := { s with inPins := s.inPins.set p v }

/-- The host drains the events accumulated so far (10_state.md R47). -/
def drainEvents (s : State) : State := { s with events := [] }

/-- How many ticks a RunFrame makes: one at frequency 0, else ten times the frequency (70 R333). -/
def frameTicks (frequency : Nat) : Nat := if frequency = 0 then 1 else frequency * 10

/-- RunFrame, a host loop of ticks (R333). -/
def runFrame (frequency : Nat) (s : State) : State := tickN (frameTicks frequency) s

/-- The value an output port shows: that of the last event for it, held by the host (10_state.md R46). -/
def portShows (p : Port) (es : List Event) : Option Word :=
  match es with
  | [] => Option.none
  | .outPort q v :: t => if q = p then some ((portShows p t).getD v) else portShows p t
  | .pixel _ _ :: t => portShows p t

/-- The host's actions, each strictly between two ticks (92_eei_decisions.md D23). -/
inductive HostAction where
  | tick
  | runFrame (frequency : Nat)
  | reset
  | loadImage (ts : List ImageToken)
  | write (addr : Nat) (v : Word)
  | setInputPort (p : Port) (v : Word)
  | drainEvents
  deriving DecidableEq, Repr

/-- One host action. -/
def hostAct (a : HostAction) (s : State) : HostResult :=
  match a with
  | .tick => ⟨Sys2Proof.Machine.tick s, Option.none⟩
  | .runFrame f => ⟨Sys2Proof.Machine.runFrame f s, Option.none⟩
  | .reset => ⟨resetMachine s, Option.none⟩
  | .loadImage ts => Sys2Proof.Machine.loadImage s ts
  | .write addr v => hostWrite s addr v
  | .setInputPort p v => ⟨Sys2Proof.Machine.setInputPort s p v, Option.none⟩
  | .drainEvents => ⟨Sys2Proof.Machine.drainEvents s, Option.none⟩

/-- A run of the machine under its host: actions in order, each on the state the one before left. -/
def hostRun (as : List HostAction) (s : State) : State :=
  match as with
  | [] => s
  | a :: t => hostRun t (hostAct a s).state

end Sys2Proof.Machine
end

