-- ==== Sys2Proof/Safety.lean ====
section
/-! DEFINITION. The terms the claims use: what an instruction leaves unchanged, what it leaves in the
latches, the invariants of a run, and which states a program cannot tell apart. -/

namespace Sys2Proof.Safety

open Sys2Proof.Machine

/-! ## Frames -/

/-- Every general register is as before. -/
def KeepsRegs (s t : State) : Prop := ∀ r : Reg, t.getReg r = s.getReg r

/-- Every general register but `d` is as before. -/
def KeepsRegsBut (s t : State) (d : Reg) : Prop := ∀ r : Reg, r ≠ d → t.getReg r = s.getReg r

/-- Every word of memory is as before. -/
def KeepsMemory (s t : State) : Prop := ∀ a : Word, t.memRead a = s.memRead a

/-- Every word of memory but the one at `a` is as before. -/
def KeepsMemoryBut (s t : State) (a : Word) : Prop := ∀ b : Word, b ≠ a → t.memRead b = s.memRead b

/-- The phase flags, the write latch, the clock bit and the input pins are as before. -/
structure KeepsSequencer (s t : State) : Prop where
  phases : t.phases = s.phases
  wl     : t.wl = s.wl
  clk    : t.clk = s.clk
  inPins : t.inPins = s.inPins

/-- No port is sampled and no event emitted. -/
structure NoPortActivity (s t : State) : Prop where
  inDraws : t.inDraws = s.inDraws
  events  : t.events = s.events

/-- What the end of an instruction leaves in PC and the latches (spec/46_sequencer.md R285, R290): PC at
`target`; IR1 the extension word if there was one; RAMADDR a copy of IR1; IR0 and the holding pair the word at
the new PC. -/
structure EndsAt (s t : State) (target : Word) (ext : Option Word) : Prop where
  pc           : t.pc = target
  ir1          : t.ir1 = ext.getD s.ir1
  ramaddrLatch : t.ramaddrLatch = ext.getD s.ir1
  ramAddr      : t.ramAddr = target
  ramOut       : t.ramOut = t.memRead target
  ir0          : t.ir0 = t.memRead target

/-- The whole effect of an instruction that writes `v` to register `d`, leaves SP at `stack`, and does nothing
else but end. -/
structure WritesRegister (s t : State) (d : Reg) (v stack : Word) : Prop where
  written   : t.getReg d = v
  regs      : KeepsRegsBut s t d
  sp        : t.sp = stack
  flags     : t.flags = s.flags
  memory    : KeepsMemory s t
  ports     : NoPortActivity s t
  sequencer : KeepsSequencer s t

/-- The whole effect of an instruction that leaves FLAGS at `f` and SP at `stack`, and does nothing else but
end. -/
structure LeavesData (s t : State) (f : BitVec 4) (stack : Word) : Prop where
  regs      : KeepsRegs s t
  sp        : t.sp = stack
  flags     : t.flags = f
  memory    : KeepsMemory s t
  ports     : NoPortActivity s t
  sequencer : KeepsSequencer s t

/-- The whole effect of an instruction that stores `v` at `a`, leaves SP at `stack`, and does nothing else but
end: a store into the framebuffer emits one pixel event (spec/20_memory.md R62, R70). -/
structure StoresWord (s t : State) (a v stack : Word) : Prop where
  stored    : t.memRead a = v
  memory    : KeepsMemoryBut s t a
  events    : t.events = s.events ++ if 0x8000 ≤ a.toNat ∧ a.toNat ≤ 0xBFFF then [Event.pixel a v] else []
  inDraws   : t.inDraws = s.inDraws
  regs      : KeepsRegs s t
  sp        : t.sp = stack
  flags     : t.flags = s.flags
  sequencer : KeepsSequencer s t

/-! ## Invariants -/

/-- IR0 holds the word at PC, and the holding pair that word and its address (R290). -/
structure Latched (s : State) : Prop where
  ir0     : s.ir0 = s.memRead s.pc
  ramAddr : s.ramAddr = s.pc
  ramOut  : s.ramOut = s.memRead s.pc

/-- What holds between instructions: the memory is in its canonical form, the machine is at an instruction
boundary with no write pending, and the latches hold the next instruction. -/
structure Inv (s : State) : Prop where
  memory    : s.mem.wf = true
  quiescent : quiescent s = true
  latched   : Latched s

/-- LD or ST: the two instructions with an address cycle (R251). -/
def isAbsolute (w : Word) : Bool := classField w == 3 && subField w ≤ 1

/-- What R252 says of the phase flags between two ticks. -/
structure PhaseInv (s : State) : Prop where
  notExtRegA    : ¬(s.phases.ext = true ∧ s.phases.regA = true)
  notExtSpc     : ¬(s.phases.ext = true ∧ s.phases.spc = true)
  notRegASpc    : ¬(s.phases.regA = true ∧ s.phases.spc = true)
  rtsWithSpc    : s.phases.rtsF = true → s.phases.spc = true
  jsrWithExt    : s.phases.jsrF = true → s.phases.ext = true
  extWithWord   : s.phases.ext = true → hasExtension (classField s.ir0) (subField s.ir0) = true
  addrJ         : s.phases.addrJ = true → isAbsolute s.ir0 = true ∧ s.phases.ext = false
  addrB         : s.phases.addrB = true → isAbsolute s.ir0 = true ∧ s.phases.ext = false ∧ s.phases.addrJ = !s.clk

/-! ## Operand formats -/

/-- Which register fields a format names (spec/30_encoding.md R96). -/
structure Format where
  usesDst  : Bool
  usesSrcA : Bool
  usesSrcB : Bool
  deriving DecidableEq, Repr

/-- R96's table, by class and subopcode: RRR; D; AB and DA; DX; DX, AX, AB and DB; X and N; A and D; D and A. -/
def formatOf (cls sub : Nat) : Format :=
  match cls with
  | 0 => if sub ≤ 9 then ⟨true, true, true⟩ else ⟨true, false, false⟩
  | 1 => if sub = 10 then ⟨false, true, true⟩ else if sub = 11 then ⟨true, true, false⟩ else ⟨false, false, false⟩
  | 2 => ⟨true, false, false⟩
  | 3 =>
    match sub with
    | 0 => ⟨true, false, false⟩
    | 1 => ⟨false, true, false⟩
    | 2 => ⟨false, true, true⟩
    | 3 => ⟨true, false, true⟩
    | _ => ⟨false, false, false⟩
  | 5 => if sub = 1 then ⟨true, false, false⟩ else ⟨false, true, false⟩
  | 7 =>
    if sub = 0 then ⟨false, false, false⟩
    else if sub ≤ 3 then ⟨true, false, false⟩
    else if sub ≤ 6 then ⟨false, true, false⟩
    else ⟨false, false, false⟩
  | _ => ⟨false, false, false⟩

/-! ## What a program can see -/

/-- Two states a program cannot tell apart: the same general registers, PC, SP, FLAGS and RAM, and the same
environment (spec/10_state.md R34). The latches, the phase flags, the clock bit and the events may differ. -/
structure SameArchitecture (s t : State) : Prop where
  regs    : s.regs = t.regs
  pc      : s.pc = t.pc
  sp      : s.sp = t.sp
  flags   : s.flags = t.flags
  mem     : s.mem = t.mem
  inPins  : s.inPins = t.inPins
  inDraws : s.inDraws = t.inDraws

/-- The address an instruction stores to, if it stores (spec/20_memory.md R69): ST, STR, JSR and the class-5
subopcodes but POP. -/
def storeAddress (i : Instr) (s : State) : Option Word :=
  let e := encodingOf i
  if e.cls = 3 ∧ e.sub = 1 then e.ext
  else if e.cls = 3 ∧ e.sub = 2 then some (s.getReg e.srcB)
  else if e.cls = 4 ∧ e.sub = 11 then some s.sp
  else if e.cls = 5 ∧ e.sub ≠ 1 then some s.sp
  else none

/-- The machine's data alone, without the events: what R292 compares between the two levels. -/
def withEvents (s : State) (es : List Event) : State := { s with events := es }

/-- The instructions the class table gives no effect (spec/45_io_system.md R220). -/
def inertInstrs : List Instr :=
  [.nop1_0, .nop1_1, .nop1_2, .nop1_3, .nop1_4, .nop1_5, .nop1_6, .nop1_7, .nop1_8, .nop1_9,
   .nop1_12, .nop1_13, .nop1_14, .nop1_15,
   .nop3_4, .nop3_5, .nop3_6, .nop3_7, .nop3_8, .nop3_9, .nop3_10, .nop3_11, .nop3_12, .nop3_13, .nop3_14, .nop3_15,
   .nop4_13, .nop4_14, .nop4_15,
   .nop6_0, .nop6_1, .nop6_2, .nop6_3, .nop6_4, .nop6_5, .nop6_6, .nop6_7, .nop6_8, .nop6_9, .nop6_10, .nop6_11,
   .nop6_12, .nop6_13, .nop6_14, .nop6_15,
   .nop7_7, .nop7_8, .nop7_9, .nop7_10, .nop7_11, .nop7_12, .nop7_13, .nop7_14, .nop7_15]

/-- LDI under its sixteen subopcodes (spec/42_load_store.md R170, R171). -/
def loadImmediates (d : Reg) (x : Word) : List Instr :=
  [.ldi d x, .ldi1 d x, .ldi2 d x, .ldi3 d x, .ldi4 d x, .ldi5 d x, .ldi6 d x, .ldi7 d x,
   .ldi8 d x, .ldi9 d x, .ldi10 d x, .ldi11 d x, .ldi12 d x, .ldi13 d x, .ldi14 d x, .ldi15 d x]

/-- PUSH under its fifteen subopcodes (spec/44_stack.md R210, R212). -/
def pushes (a : Reg) : List Instr :=
  [.push a, .push2 a, .push3 a, .push4 a, .push5 a, .push6 a, .push7 a, .push8 a, .push9 a, .push10 a, .push11 a,
   .push12 a, .push13 a, .push14 a, .push15 a]

/-- ZERO under its six subopcodes (spec/41_alu_instructions.md R150). -/
def zeroes (d : Reg) : List Instr := [.zero10 d, .zero11 d, .zero12 d, .zero13 d, .zero14 d, .zero15 d]

end Sys2Proof.Safety
end

