-- ==== Sys2Proof/Certificates/Slice0/Obligations.lean ====
section
/-! DEFINITION. The statements for the provers. Each docstring says which rule of the spec it formalises.
Where a statement needs a premise on the state alone that every run keeps (a canonical memory, an
instruction boundary), that premise is part of `Safety.Inv`, whose own statements are `ResetMeetsTheInvariant`
and `EveryStepKeepsTheInvariant`. -/

open Sys2Proof Sys2Proof.Machine Sys2Proof.Safety

/-! ## Encoding -/

/-- Decoding an encoded instruction gives it back, whatever words follow: no bit of any of the 128 instructions'
encodings is dropped (R91, R93, R96). -/
def Obligations.DecodeOfEncodeIsIdentity : Prop :=
  ∀ (i : Instr) (rest : List Word), decode (encode i ++ rest) = .instr i rest

/-- The other direction: what a word decodes to has the word's class and subopcode, which bits 15 to 9 alone
select (R102); each register field that its format uses (R96) is the word's own field and every other one is 0,
and it carries the extension word exactly where the list of lengths gives one. -/
def Obligations.EncodeOfDecodeKeepsTheFields : Prop :=
  ∀ w x : Word,
    let e := encodingOf (decodePair w x)
    let f := formatOf (classField w) (subField w)
    (w &&& 0xFE00) = assemble e.cls e.sub 0 0 0 ∧ e.cls = classField w ∧ e.sub = subField w
    ∧ e.dst = (if f.usesDst then dstField w else 0) ∧ e.srcA = (if f.usesSrcA then srcAField w else 0)
    ∧ e.srcB = (if f.usesSrcB then srcBField w else 0)
    ∧ e.ext = if hasExtension (classField w) (subField w) then some x else none

/-- R92, R96: a field an instruction does not use has no effect: two words with the same class and subopcode
that agree on the fields their format uses decode alike. -/
def Obligations.UnusedFieldsHaveNoEffect : Prop :=
  ∀ w w' x : Word, classField w = classField w' → subField w = subField w' →
    ((formatOf (classField w) (subField w)).usesDst = true → dstField w = dstField w') →
    ((formatOf (classField w) (subField w)).usesSrcA = true → srcAField w = srcAField w') →
    ((formatOf (classField w) (subField w)).usesSrcB = true → srcBField w = srcBField w') →
    decodePair w x = decodePair w' x

/-- R97: every word decodes, and an undefined (class, subopcode) pair decodes to the inert bundle, for every
FLAGS. The pairs are R98's and R241's; that the undefined pairs of classes 3 and 4 are inert is the spec's
resolution C3 (90_conflicts.md; log entry 12). -/
def Obligations.DecodingIsTotal : Prop :=
  (∀ w x : Word, ∀ rest : List Word, ∃ i more, decode (w :: x :: rest) = .instr i more) ∧
  (∀ w : Word, ∀ f : BitVec 4,
    (classField w = 1 ∧ subField w ≠ 10 ∧ subField w ≠ 11) ∨ (classField w = 3 ∧ 4 ≤ subField w)
      ∨ (classField w = 4 ∧ 13 ≤ subField w) ∨ classField w = 6 ∨ (classField w = 7 ∧ 7 ≤ subField w) →
    controls w f = inertControls w)

/-- R90: an instruction has an extension word exactly when its decode asserts isNxtExt, which is class 2, class
3 subopcodes 0 and 1, and class 4 subopcodes 0 to 11; the decoder consumes one word or two accordingly. -/
def Obligations.LengthFollowsTheList : Prop :=
  ∀ (w x : Word) (rest : List Word) (f : BitVec 4),
    ((controls w f).isNxtExt = true ↔
      classField w = 2 ∨ (classField w = 3 ∧ subField w ≤ 1) ∨ (classField w = 4 ∧ subField w ≤ 11)) ∧
    decode (w :: x :: rest) =
      if (controls w f).isNxtExt then .instr (decodePair w x) rest else .instr (decodePair w 0) (x :: rest)

/-- R94: FLAGS changes only whether a conditional jump is taken, never an instruction's length or class: it
reaches the bundle through containsAddress alone, and only for class 4 subopcodes 0 to 10. -/
def Obligations.FlagsReachTheBundleOnlyThroughJumps : Prop :=
  ∀ (w : Word) (f g : BitVec 4),
    { controls w f with containsAddress := false } = { controls w g with containsAddress := false } ∧
    (¬(classField w = 4 ∧ subField w ≤ 10) → controls w f = controls w g)

/-- The words of R110's syntax table, all eighteen rows, decode to the instructions it names. -/
def Obligations.TheSpecsWordsDecode : Prop :=
  decode [0x0053] = .instr (.add 1 2 3) [] ∧ decode [0x1500] = .instr (.zero10 4) [] ∧
  decode [0x3413] = .instr (.cmp 2 3) [] ∧ decode [0x3650] = .instr (.not 1 2) [] ∧
  decode [0x4000, 0x0005] = .instr (.ldi 0 5) [] ∧ decode [0x6040, 0x0020] = .instr (.ld 1 0x20) [] ∧
  decode [0x6210, 0x0020] = .instr (.st 2 0x20) [] ∧ decode [0x6413] = .instr (.str 2 3) [] ∧
  decode [0x6643] = .instr (.ldr 1 3) [] ∧ decode [0x8200, 0x0010] = .instr (.jc 0x10) [] ∧
  decode [0x9600, 0x0010] = .instr (.jsr 0x10) [] ∧ decode [0x9800] = .instr .rts [] ∧
  decode [0xA010] = .instr (.push 2) [] ∧ decode [0xA240] = .instr (.pop 1) [] ∧ decode [0xE000] = .instr .hlt [] ∧
  decode [0xE440] = .instr (.inB 1) [] ∧ decode [0xE810] = .instr (.outA 2) [] ∧ decode [0xC000] = .instr .nop6_0 []

/-! ## The ALU and the condition multiplexer -/

/-- R121: a disabled ALU puts out zeros, whatever its inputs. -/
def Obligations.DisabledAluIsAllZero : Prop :=
  ∀ (a b : Word) (op : BitVec 4), alu a b op false = ⟨0, false, false, false, false⟩

/-- R122: of an enabled ALU, z says that the result is 0, n is bit 15 of the result, and c and v are 0 unless
the operation is 0, 1 or 10. -/
def Obligations.EnabledAluFlags : Prop :=
  ∀ (a b : Word) (op : BitVec 4),
    ((alu a b op true).z = true ↔ (alu a b op true).r = 0) ∧ (alu a b op true).n = (alu a b op true).r.getLsbD 15 ∧
    (op ≠ 0 → op ≠ 1 → op ≠ 10 → (alu a b op true).c = false ∧ (alu a b op true).v = false)

/-- R123: the sum and the difference wrap modulo 2^16; the carry of an addition, and the borrow of a
subtraction, are the exact comparisons and also the sign-bit formulas; the overflows are the sign-bit formulas;
selector 10 is selector 1. The formulas are the spec's decision D4 (92_eei_decisions.md). -/
def Obligations.AddAndSubFlags : Prop :=
  ∀ a b : Word,
    (let o := alu a b 0 true
     o.r.toNat = (a.toNat + b.toNat) % 65536 ∧ (o.c = true ↔ 0x10000 ≤ a.toNat + b.toNat) ∧
     o.c = ((a.getLsbD 15 && b.getLsbD 15) || ((a.getLsbD 15 || b.getLsbD 15) && !o.r.getLsbD 15)) ∧
     (o.v = true ↔ a.getLsbD 15 = b.getLsbD 15 ∧ o.r.getLsbD 15 ≠ a.getLsbD 15)) ∧
    (let o := alu a b 1 true
     (o.r.toNat : Int) = ((a.toNat : Int) - b.toNat) % 65536 ∧ (o.c = true ↔ a.toNat < b.toNat) ∧
     o.c = ((!a.getLsbD 15 && b.getLsbD 15) || ((!a.getLsbD 15 || b.getLsbD 15) && o.r.getLsbD 15)) ∧
     (o.v = true ↔ a.getLsbD 15 ≠ b.getLsbD 15 ∧ o.r.getLsbD 15 ≠ a.getLsbD 15)) ∧
    alu a b 10 true = alu a b 1 true

/-- R125, R126: division and remainder are unsigned; for a divisor other than 0 they satisfy a = b·DIV(a,b) +
MOD(a,b) with a remainder below the divisor, and for a divisor of 0 both are 0. That the operands are unsigned
is the spec's decision D3. -/
def Obligations.DivisionLaw : Prop :=
  ∀ a b : Word,
    (b ≠ 0 → a.toNat = b.toNat * (alu a b 3 true).r.toNat + (alu a b 4 true).r.toNat
      ∧ (alu a b 4 true).r.toNat < b.toNat) ∧
    (b = 0 → (alu a b 3 true).r = 0 ∧ (alu a b 4 true).r = 0)

/-- R190: the twelve conditions as formulas of Z, N, C and V with X = N ⊕ V, and the same table for every FLAGS
value: bit f of a row's number is the condition for FLAGS = f. -/
def Obligations.ConditionTable : Prop :=
  ∀ f : BitVec 4,
    let n := f.getLsbD 1
    let c := f.getLsbD 2
    let v := f.getLsbD 3
    let x := n != v
    let row (k : Nat) (formula : Bool) (bits : Word) : Prop :=
      condition k f = formula ∧ condition k f = bits.getLsbD f.toNat
    row 0 true 0xFFFF ∧ row 1 c 0xF0F0 ∧ row 2 (!c) 0x0F0F ∧ row 3 v 0xFF00 ∧ row 4 (c || v) 0xFFF0 ∧
    row 5 (!(c || v)) 0x000F ∧ row 6 (!v) 0x00FF ∧ row 7 x 0x33CC ∧ row 8 (c || x) 0xF3FC ∧
    row 9 (!c && !x) 0x0C03 ∧ row 10 x 0x33CC ∧ row 11 true 0xFFFF

/-- What the conditions mean after CMP a, b (R191): C is a < b unsigned, N ⊕ V is a < b signed, V is that a − b
does not fit a signed word, Z is equality. So JC, JNC, JLT and JNCLT test the orders. R191 derives this from
R123, whose formulas are decision D4. -/
def Obligations.CompareFlagsMeanTheOrders : Prop :=
  ∀ a b : Word, let f := compareFlags a b
    (flagC f = true ↔ a.toNat < b.toNat) ∧ (flagX f = true ↔ a.toInt < b.toInt) ∧
    (flagV f = true ↔ a.toInt - b.toInt < -32768 ∨ 32767 < a.toInt - b.toInt) ∧ (flagZ f = true ↔ a = b) ∧
    (condition 9 f = true ↔ b.toNat ≤ a.toNat ∧ b.toInt ≤ a.toInt)

/-! ## What each instruction does

Each statement says that the instruction completes in every state, what it leaves, and that it leaves
everything else; a written register may be one of the sources, whose value is then the one before. -/

/-- R140 to R149: ADD, SUB, MUL, DIV, MOD, AND, OR, NAND, NOR and XOR write their result to x[dst] and no flag.
That DIV and MOD read their operands as unsigned is the spec's decision D3. What it leaves in IR1, RAMADDR, IR0
and the holding pair is log entry 8, read from R266, R268, R280 and R285. -/
def Obligations.RegisterOperations : Prop :=
  ∀ (s : State) (d a b : Reg),
    let x := s.getReg a
    let y := s.getReg b
    let does (i : Instr) (sub : Nat) (v : Word) : Prop :=
      decode [assemble 0 sub d a b] = .instr i [] ∧
      ∃ t, exec i s = .next t ∧ WritesRegister s t d v s.sp ∧ EndsAt s t (s.pc + 1) none
    does (.add d a b) 0 (BitVec.ofNat 16 (x.toNat + y.toNat)) ∧
    does (.sub d a b) 1 (BitVec.ofInt 16 ((x.toNat : Int) - y.toNat)) ∧
    does (.mul d a b) 2 (BitVec.ofNat 16 (x.toNat * y.toNat)) ∧
    does (.div d a b) 3 (if y = 0 then 0 else BitVec.ofNat 16 (x.toNat / y.toNat)) ∧
    does (.mod d a b) 4 (if y = 0 then 0 else BitVec.ofNat 16 (x.toNat % y.toNat)) ∧
    does (.and d a b) 5 (x &&& y) ∧ does (.or d a b) 6 (x ||| y) ∧ does (.nand d a b) 7 (~~~(x &&& y)) ∧
    does (.nor d a b) 8 (~~~(x ||| y)) ∧ does (.xor d a b) 9 (x ^^^ y)

/-- R150: ZERO.10 to ZERO.15 write 0 to x[dst], whatever the ignored fields hold. What it leaves in IR1,
RAMADDR, IR0 and the holding pair is log entry 8, read from R266, R268, R280 and R285. -/
def Obligations.ReservedZeroesWriteZero : Prop :=
  ∀ (s : State) (d : Reg),
    (∀ a b : Reg, [10, 11, 12, 13, 14, 15].map (fun k => decode [assemble 0 k d a b])
      = (zeroes d).map (fun i => .instr i [])) ∧
    ∀ i ∈ zeroes d, ∃ t, exec i s = .next t ∧ WritesRegister s t d 0 s.sp ∧ EndsAt s t (s.pc + 1) none

/-- R152: CMP writes all four flags from x[srcA] − x[srcB], and no register. What it leaves in IR1, RAMADDR, IR0
and the holding pair is log entry 8, read from R266, R268, R280 and R285. -/
def Obligations.CompareWritesFlagsOnly : Prop :=
  ∀ (s : State) (a b : Reg), (∀ d : Reg, decode [assemble 1 10 d a b] = .instr (.cmp a b) []) ∧
    ∃ t, exec (.cmp a b) s = .next t ∧ LeavesData s t t.flags s.sp ∧ EndsAt s t (s.pc + 1) none ∧
      (let o := alu (s.getReg a) (s.getReg b) 1 true
       flagZ t.flags = o.z ∧ flagN t.flags = o.n ∧ flagC t.flags = o.c ∧ flagV t.flags = o.v)

/-- R153: NOT writes the complement of x[srcA] to x[dst] and no flag. What it leaves in IR1, RAMADDR, IR0 and
the holding pair is log entry 8, read from R266, R268, R280 and R285. -/
def Obligations.NotComplements : Prop :=
  ∀ (s : State) (d a : Reg), (∀ b : Reg, decode [assemble 1 11 d a b] = .instr (.not d a) []) ∧
    ∃ t, exec (.not d a) s = .next t ∧ WritesRegister s t d (~~~s.getReg a) s.sp ∧ EndsAt s t (s.pc + 1) none

/-- R220, and the inert pairs of R151, R176, R205, R221 and R226: of the architectural state nothing changes but
PC, which advances by one, for every operand value; one cycle, two ticks (R286). What it leaves in IR1, RAMADDR,
IR0 and the holding pair is log entry 8, read from R266, R268, R280 and R285. -/
def Obligations.InertInstructionsOnlyAdvance : Prop :=
  ∀ (s : State), ∀ i ∈ inertInstrs,
    ((encodingOf i).cls = 1 ∧ (encodingOf i).sub ≠ 10 ∧ (encodingOf i).sub ≠ 11 ∨
      (encodingOf i).cls = 3 ∧ 4 ≤ (encodingOf i).sub ∨ (encodingOf i).cls = 4 ∧ 13 ≤ (encodingOf i).sub ∨
      (encodingOf i).cls = 6 ∨ (encodingOf i).cls = 7 ∧ 7 ≤ (encodingOf i).sub) ∧
    (∀ d a b : Reg, decode [assemble (encodingOf i).cls (encodingOf i).sub d a b] = .instr i []) ∧
    instrTicks (firstWord i) = 2 ∧
    ∃ t, exec i s = .next t ∧ LeavesData s t s.flags s.sp ∧ EndsAt s t (s.pc + 1) none

/-- R171 (with R170's effect): every class-2 subopcode writes its extension word to x[dst]. What it leaves in
IR1, RAMADDR, IR0 and the holding pair is log entry 8, read from R266, R268, R280 and R285. -/
def Obligations.LoadImmediateWritesTheExtensionWord : Prop :=
  ∀ (s : State) (d : Reg) (x : Word), ∀ i ∈ loadImmediates d x,
    (∃ k, k < 16 ∧ ∀ a b : Reg, decode [assemble 2 k d a b, x] = .instr i []) ∧ exec i s = exec (.ldi d x) s ∧
    ∃ t, exec i s = .next t ∧ WritesRegister s t d x s.sp ∧ EndsAt s t (s.pc + 2) (some x)

/-- R172: LD writes the word at the extension-word address to x[dst]; six ticks (R286). What it leaves in IR1,
RAMADDR, IR0 and the holding pair is log entry 8, read from R266, R268, R280 and R285. -/
def Obligations.LoadAbsolute : Prop :=
  ∀ (s : State) (d : Reg) (x : Word),
    (∀ a b : Reg, decode [assemble 3 0 d a b, x] = .instr (.ld d x) []) ∧ instrTicks (firstWord (.ld d x)) = 6 ∧
    ∃ t, exec (.ld d x) s = .next t ∧ WritesRegister s t d (s.memRead x) s.sp ∧ EndsAt s t (s.pc + 2) (some x)

/-- R173's instruction-level effect: ST stores x[srcA] at the extension-word address, with a pixel event in the
framebuffer (R62, R70), and the next instruction word is read after the store. What it leaves in IR1, RAMADDR,
IR0 and the holding pair is log entry 8, read from R266, R268, R280 and R285. -/
def Obligations.StoreAbsolute : Prop :=
  ∀ (s : State) (a : Reg) (x : Word), s.mem.wf = true →
    (∀ d b : Reg, decode [assemble 3 1 d a b, x] = .instr (.st a x) []) ∧ effectiveAddress (.absolute x) s = x ∧
    ∃ t, exec (.st a x) s = .next t ∧ StoresWord s t (effectiveAddress (.absolute x) s) (s.getReg a) s.sp
      ∧ EndsAt s t (s.pc + 2) (some x)

/-- R174: STR stores x[srcA] at the address x[srcB], with a pixel event in the framebuffer (R62, R70), and the
next instruction word is read after the store; four ticks (R286). What it leaves in IR1, RAMADDR, IR0 and the
holding pair is log entry 8, read from R266, R268, R280 and R285. -/
def Obligations.StoreIndirect : Prop :=
  ∀ (s : State) (a b : Reg), s.mem.wf = true →
    (∀ d : Reg, decode [assemble 3 2 d a b] = .instr (.str a b) []) ∧ instrTicks (firstWord (.str a b)) = 4 ∧
    effectiveAddress (.indirect b) s = s.getReg b ∧
    ∃ t, exec (.str a b) s = .next t ∧ StoresWord s t (effectiveAddress (.indirect b) s) (s.getReg a) s.sp
      ∧ EndsAt s t (s.pc + 1) none

/-- R175: LDR writes the word at the address x[srcB] to x[dst]; four ticks (R286). That the address is the value
before the load R175 derives from R285. What it leaves in IR1, RAMADDR, IR0 and the holding pair is log entry 8,
read from R266, R268, R280 and R285. -/
def Obligations.LoadIndirect : Prop :=
  ∀ (s : State) (d b : Reg),
    (∀ a : Reg, decode [assemble 3 3 d a b] = .instr (.ldr d b) []) ∧ instrTicks (firstWord (.ldr d b)) = 4 ∧
    ∃ t, exec (.ldr d b) s = .next t ∧ WritesRegister s t d (s.memRead (s.getReg b)) s.sp
      ∧ EndsAt s t (s.pc + 1) none

/-- R192 to R201 and R204: each jump takes the target exactly on its condition, else falls through to A + 2; of
the architectural state nothing else changes, and it takes four ticks either way (R286, decision D31). What it
leaves in IR1, RAMADDR, IR0 and the holding pair is log entry 8, read from R266, R268, R280 and R285. -/
def Obligations.ConditionalJumps : Prop :=
  ∀ (s : State) (x : Word),
    let c := s.flags.getLsbD 2
    let v := s.flags.getLsbD 3
    let lt := s.flags.getLsbD 1 != v
    let does (i : Instr) (sub : Nat) (taken : Bool) : Prop :=
      (∀ d a b : Reg, decode [assemble 4 sub d a b, x] = .instr i []) ∧ instrTicks (firstWord i) = 4 ∧
      ∃ t, exec i s = .next t ∧ LeavesData s t s.flags s.sp
        ∧ EndsAt s t (if taken then x else s.pc + 2) (some x)
    does (.jmp x) 0 true ∧ does (.jc x) 1 c ∧ does (.jnc x) 2 (!c) ∧ does (.jv x) 3 v ∧
    does (.jcv x) 4 (c || v) ∧ does (.jncv x) 5 (!(c || v)) ∧ does (.jnv x) 6 (!v) ∧ does (.jlt x) 7 lt ∧
    does (.jclt x) 8 (c || lt) ∧ does (.jnclt x) 9 (!c && !lt) ∧ does (.jlta x) 10 lt

/-- R202's instruction-level effect: JSR pushes A + 2 at SP, SP goes down by one, and PC takes the target. The
stack's direction and the pushed address are the spec's decisions D5 and D6. What it leaves in IR1, RAMADDR, IR0
and the holding pair is log entry 8, read from R266, R268, R280 and R285. -/
def Obligations.CallPushesTheReturnAddress : Prop :=
  ∀ (s : State) (x : Word), s.mem.wf = true →
    (∀ d a b : Reg, decode [assemble 4 11 d a b, x] = .instr (.jsr x) []) ∧ effectiveAddress .pushSlot s = s.sp ∧
    ∃ t, exec (.jsr x) s = .next t ∧ StoresWord s t (effectiveAddress .pushSlot s) (s.pc + 2) (s.sp - 1)
      ∧ EndsAt s t x (some x)

/-- R203: RTS adds one to SP and takes PC from the word at the new SP; four ticks (R286). The stack's direction
is the spec's decision D5. What it leaves in IR1, RAMADDR, IR0 and the holding pair is log entry 8, read from
R266, R268, R280 and R285. -/
def Obligations.ReturnPopsThePc : Prop :=
  ∀ (s : State), (∀ d a b : Reg, decode [assemble 4 12 d a b] = .instr .rts []) ∧ instrTicks (firstWord .rts) = 4 ∧
    ∃ t, exec .rts s = .next t ∧ LeavesData s t s.flags (s.sp + 1) ∧ EndsAt s t (s.memRead (s.sp + 1)) none

/-- R212 (with R210's effect): every class-5 subopcode but 1 stores x[srcA] at SP, and SP goes down by one. The
stack's direction is the spec's decision D5. What it leaves in IR1, RAMADDR, IR0 and the holding pair is log
entry 8, read from R266, R268, R280 and R285. -/
def Obligations.PushStoresAtSp : Prop :=
  ∀ (s : State) (a : Reg), s.mem.wf = true → effectiveAddress .pushSlot s = s.sp ∧ ∀ i ∈ pushes a,
    (∃ k, k < 16 ∧ k ≠ 1 ∧ ∀ d b : Reg, decode [assemble 5 k d a b] = .instr i []) ∧ exec i s = exec (.push a) s ∧
    ∃ t, exec i s = .next t ∧ StoresWord s t (effectiveAddress .pushSlot s) (s.getReg a) (s.sp - 1)
      ∧ EndsAt s t (s.pc + 1) none

/-- R211's instruction-level effect: POP adds one to SP and writes the word at the new SP to x[dst]. The stack's
direction is the spec's decision D5. What it leaves in IR1, RAMADDR, IR0 and the holding pair is log entry 8,
read from R266, R268, R280 and R285. -/
def Obligations.PopLoadsAboveSp : Prop :=
  ∀ (s : State) (d : Reg), (∀ a b : Reg, decode [assemble 5 1 d a b] = .instr (.pop d) []) ∧
    ∃ t, exec (.pop d) s = .next t ∧ WritesRegister s t d (s.memRead (s.sp + 1)) (s.sp + 1)
      ∧ EndsAt s t (s.pc + 1) none

/-- R222's instruction-level effect: HLT completes with PC at its own address and no register, flag or word of
memory changed; where the latches hold the HLT word it changes nothing at all. That PC stays is the spec's
decision D7. That IR0 and the holding pair are reloaded from RAM[PC] is log entry 7, read from R268 and R280. -/
def Obligations.HaltChangesNothing : Prop :=
  ∀ (s : State), (∀ d a b : Reg, decode [assemble 7 0 d a b] = .instr .hlt []) ∧
    (∃ t, exec .hlt s = .next t ∧ LeavesData s t s.flags s.sp ∧ t.pc = s.pc ∧ t.ir1 = s.ir1
      ∧ t.ramaddrLatch = s.ramaddrLatch ∧ Latched t) ∧
    (Latched s → exec .hlt s = .next s)

/-- R224: IN.A, IN.B and IN.C write the value of their port to x[dst]: what the host set, and a free draw where
it set nothing, whose value this does not say (the spec's decision D17). No event is emitted; two ticks (R286).
After the host sets the port to v, the IN writes v; a change after the first tick is not seen (R332), and the
other ports keep their values. That a set value stays, and the count of draws, are log entry 1. What it leaves
in IR1, RAMADDR, IR0 and the holding pair is log entry 8, read from R266, R268, R280 and R285. -/
def Obligations.InReadsThePort : Prop :=
  ∀ (s : State) (d : Reg),
    let does (i : Instr) (sub : Nat) (p : Port) (set : Option Word) : Prop :=
      (∀ a b : Reg, decode [assemble 7 sub d a b] = .instr i []) ∧ instrTicks (firstWord i) = 2 ∧
      ∃ t, exec i s = .next t
        ∧ t.getReg d = (match set with | some v => v | none => Config.inPortDraw p s.inDraws)
        ∧ t.inDraws = (match set with | some _ => s.inDraws | none => s.inDraws + 1)
        ∧ KeepsRegsBut s t d ∧ t.sp = s.sp ∧ t.flags = s.flags ∧ KeepsMemory s t ∧ t.events = s.events
        ∧ KeepsSequencer s t ∧ EndsAt s t (s.pc + 1) none ∧
      ∀ v : Word,
        (∀ q, (setInputPort s p v).portValue q = if q = p then v else s.portValue q) ∧
        (∃ u, exec i (setInputPort s p v) = .next u ∧ u.getReg d = v ∧ u.inDraws = s.inDraws ∧ KeepsRegsBut s u d) ∧
        (quiescent s = true → s.ir0 = firstWord i →
          (tick (setInputPort s p v)).getReg d = v ∧ (tick (setInputPort (tick s) p v)).regs = (tick (tick s)).regs)
    does (.inA d) 1 .a s.inPins.a ∧ does (.inB d) 2 .b s.inPins.b ∧ does (.inC d) 3 .c s.inPins.c

/-- R225's instruction-level effect: OUT.A, OUT.B and OUT.C emit one event with x[srcA]; no register and no word
of memory changes. The port then shows that value and the other ports what they showed (R46). That the
instruction level counts one event is the spec's decision D16; the list of events is log entry 3. What it leaves
in IR1, RAMADDR, IR0 and the holding pair is log entry 8, read from R266, R268, R280 and R285. -/
def Obligations.OutEmitsOneEvent : Prop :=
  ∀ (s : State) (a : Reg),
    let does (i : Instr) (sub : Nat) (p : Port) : Prop :=
      (∀ d b : Reg, decode [assemble 7 sub d a b] = .instr i []) ∧
      ∃ t, exec i s = .next t ∧ t.events = s.events ++ [Event.outPort p (s.getReg a)] ∧ t.inDraws = s.inDraws
        ∧ KeepsRegs s t ∧ t.sp = s.sp ∧ t.flags = s.flags ∧ KeepsMemory s t ∧ KeepsSequencer s t
        ∧ EndsAt s t (s.pc + 1) none
        ∧ ∀ q, portShows q t.events = if q = p then some (s.getReg a) else portShows q s.events
    does (.outA a) 4 .a ∧ does (.outB a) 5 .b ∧ does (.outC a) 6 .c

/-! ## Rules about the whole machine -/

/-- Every step from every state completes: there is no exception, no trap and no illegal encoding (R300, R304).
-/
def Obligations.EveryStepCompletes : Prop := ∀ s : State, ∃ t, step s = .next t

/-- A step runs the decoded instruction: at a boundary whose IR0 holds the word at PC, if the words at PC decode
to an instruction, the step is that instruction's execution. -/
def Obligations.StepRunsTheDecodedInstruction : Prop :=
  ∀ (s : State) (i : Instr) (rest : List Word), quiescent s = true → s.ir0 = s.memRead s.pc →
    decode [s.memRead s.pc, s.memRead (s.pc + 1)] = .instr i rest → step s = exec i s

/-- An instruction placed where the machine fetches is the one the next step runs, in every state with a
canonical memory. What placing means is the model's choice (log entry 5). -/
def Obligations.PlacedInstructionRuns : Prop :=
  ∀ (s : State) (nbits w : Nat) (i : Instr), s.mem.wf = true → decodeTableWord nbits w = some i →
    step (s.withFetchWord nbits w) = exec i (s.withFetchWord nbits w)

/-- Only CMP writes FLAGS (R28). -/
def Obligations.OnlyCompareWritesFlags : Prop :=
  ∀ (i : Instr) (s t : State), exec i s = .next t → t.flags ≠ s.flags → ∃ a b, i = .cmp a b

/-- Only PUSH, POP, JSR and RTS change SP, by one word (R26). -/
def Obligations.OnlyStackInstructionsMoveSp : Prop :=
  ∀ (i : Instr) (s t : State), exec i s = .next t → t.sp ≠ s.sp →
    let e := encodingOf i
    ((e.cls = 4 ∧ e.sub = 11 ∨ e.cls = 5 ∧ e.sub ≠ 1) ∧ t.sp = s.sp - 1) ∨
    ((e.cls = 4 ∧ e.sub = 12 ∨ e.cls = 5 ∧ e.sub = 1) ∧ t.sp = s.sp + 1)

/-- No instruction changes a word of memory but the one at the address R69 gives it: ST, STR, PUSH and JSR one
word, every other instruction none. -/
def Obligations.OnlyStoresChangeMemory : Prop :=
  ∀ (i : Instr) (s t : State) (a : Word), exec i s = .next t → storeAddress i s ≠ some a →
    t.memRead a = s.memRead a

/-- No instruction reads a phase flag, IR0, IR1, RAMADDR, the holding pair, the write latch or the clock as data
(R34): from two states that agree on what a program can see, every instruction leaves states that agree on it,
and emits the same events (log entry 3). -/
def Obligations.LatchesAreInvisibleToPrograms : Prop :=
  ∀ (i : Instr) (s s' : State), SameArchitecture s s' →
    ∃ t t' es, exec i s = .next t ∧ exec i s' = .next t' ∧ SameArchitecture t t'
      ∧ t.events = s.events ++ es ∧ t'.events = s'.events ++ es

/-! ## Invariants -/

/-- Right after reset the memory is canonical, the machine is at a boundary, IR0 holds the word at PC, and the
phase flags are legal (R321, R324). -/
def Obligations.ResetMeetsTheInvariant : Prop := Inv State.reset ∧ PhaseInv State.reset

/-- Every step keeps the invariant, from every state that has it: the memory stays canonical, and every
instruction ends at a boundary with IR0 holding the word at the new PC (R290). The canonical form is the model's
own (log entry 4). -/
def Obligations.EveryStepKeepsTheInvariant : Prop :=
  ∀ s t : State, Inv s → step s = .next t → Inv t

/-- Whatever the host does between ticks, in any order and number (ticks, frames, resets, image loads, word
writes, port changes, drains), the memory stays in its canonical form (R42, D23). The canonical form is the
model's own (log entry 4). -/
def Obligations.HostRunsKeepMemoryCanonical : Prop :=
  ∀ (actions : List HostAction) (s : State), s.mem.wf = true → (hostRun actions s).mem.wf = true

/-- R252: the phase flags stay legal at every tick: at most one of EXT, REGA and SPC; RTSF only with SPC; JSRF
only with EXT; ADDRB only on the idle half of an LD or ST address cycle and the active half after it; and none
changes while halted. -/
def Obligations.TicksKeepThePhaseInvariant : Prop :=
  ∀ s : State, PhaseInv s → PhaseInv (tick s) ∧ (halted s = true → (tick s).phases = s.phases)

/-! ## The tick machine against the instruction level -/

/-- R292: from every boundary with no write pending, ticking for the length of the instruction in IR0 reaches a
boundary whose state is the step's in every field but the events. R292 compares R0 to R7, PC, SP, FLAGS and RAM;
that the latches agree too is log entry 8, and that a HLT counts two ticks, though R286 says that it never ends,
is log entry 7. -/
def Obligations.TicksRefineTheStep : Prop :=
  ∀ s : State, quiescent s = true →
    ∃ t, step s = .next t ∧ quiescent (tickN (instrTicks s.ir0) s) = true ∧
      withEvents (tickN (instrTicks s.ir0) s) t.events = t

/-- R283: where IR0 holds the word at PC, the events of those ticks are the step's, with an OUT's event emitted
a second time. The two events are the spec's decision D16. -/
def Obligations.TickEventsAreTheSteps : Prop :=
  ∀ s t : State, quiescent s = true → s.ir0 = s.memRead s.pc → step s = .next t →
    (tickN (instrTicks s.ir0) s).events = t.events ++
      (if classField s.ir0 = 7 ∧ 4 ≤ subField s.ir0 ∧ subField s.ir0 ≤ 6 then
        [Event.outPort (portOf (subField s.ir0 - 4)) (s.getReg (srcAField s.ir0))] else [])

/-- R286: from a boundary, an instruction other than HLT comes to the next boundary after 2, 4 or 6 ticks and
not before; HLT never ends: PC stays for any number of ticks while the HLT word is at PC. -/
def Obligations.InstructionLengths : Prop :=
  ∀ s : State, quiescent s = true →
    (halted s = false → atBoundary (tickN (instrTicks s.ir0) s) = true ∧
      ∀ k, 0 < k → k < instrTicks s.ir0 → atBoundary (tickN k s) = false) ∧
    (halted s = true → s.ir0 = s.memRead s.pc → ∀ k, (tickN k s).pc = s.pc)

/-- A step taken in the middle of an instruction finishes it: it leaves what the remaining ticks leave. That
`step` goes on from there is the model's choice (log entry 5). -/
def Obligations.StepInMidInstructionFinishesIt : Prop :=
  ∀ (s : State) (k : Nat), quiescent s = true → halted s = false → 0 < k → k < instrTicks s.ir0 →
    step (tickN k s) = .next (tickN (instrTicks s.ir0) s)

/-- R291: in the halted state, with the HLT word still at PC, any number of ticks changes nothing but the clock
bit, and the CORE stays halted; a step returns a halted status and leaves the state unchanged (R223's decision
D8). A run of ticks ends at its first halted state, with that status, and otherwise when the host stops ticking.
That `halted` holds at either clock level is log entry 7. -/
def Obligations.HaltedTicksOnlyToggleTheClock : Prop :=
  (∀ (s : State) (n : Nat), Inv s → halted s = true →
    tickN n s = s.setClock (n % 2 == 1) s.phases ∧ halted (tickN n s) = true ∧ stepStatus s = .next ⟨s, .halted⟩) ∧
  (∀ (s : State) (n : Nat), ∃ k, k ≤ n ∧ tickRun n s = ⟨tickN k s, (tickN k s).status⟩ ∧
    ((tickN k s).status = .halted ↔ halted (tickN k s) = true) ∧
    (∀ j, j < k → halted (tickN j s) = false) ∧ (k < n → halted (tickN k s) = true))

/-- LDI writes x[dst] on its second tick and not on its first (R170). -/
def Obligations.LoadImmediateWritesOnTheSecondTick : Prop :=
  ∀ s : State, quiescent s = true → classField s.ir0 = 2 →
    (tickN 1 s).regs = s.regs ∧ (tickN 2 s).getReg (dstField s.ir0) = s.memRead (s.pc + 1) ∧
    (tickN 2 s).pc = s.pc + 1

/-- When stores commit (R173, R174, R210, R202): ST's word on the fifth tick, STR's on the third, PUSH's on the
second with SP moving on the third, JSR's on the fourth with SP and PC changing on the fifth. Memory is
unchanged on the tick before. -/
def Obligations.WhenStoresCommit : Prop :=
  ∀ s : State, quiescent s = true →
    (classField s.ir0 = 3 → subField s.ir0 = 1 → (tickN 4 s).mem = s.mem ∧
      (tickN 5 s).mem = (s.setWord (s.memRead (s.pc + 1)) (s.getReg (srcAField s.ir0))).mem) ∧
    (classField s.ir0 = 3 → subField s.ir0 = 2 → (tickN 2 s).mem = s.mem ∧
      (tickN 3 s).mem = (s.setWord (s.getReg (srcBField s.ir0)) (s.getReg (srcAField s.ir0))).mem) ∧
    (classField s.ir0 = 5 → subField s.ir0 ≠ 1 → (tickN 1 s).mem = s.mem ∧
      (tickN 2 s).mem = (s.setWord s.sp (s.getReg (srcAField s.ir0))).mem ∧ (tickN 2 s).sp = s.sp ∧
      (tickN 3 s).sp = s.sp - 1) ∧
    (classField s.ir0 = 4 → subField s.ir0 = 11 → (tickN 3 s).mem = s.mem ∧
      (tickN 4 s).mem = (s.setWord s.sp (s.pc + 2)).mem ∧ (tickN 4 s).sp = s.sp ∧ (tickN 4 s).pc = s.pc + 2 ∧
      (tickN 5 s).sp = s.sp - 1 ∧ (tickN 5 s).pc = s.memRead (s.pc + 1))

/-! ## Memory, stack and framebuffer -/

/-- A word stored by ST is the word a following LD of the same address loads (R61, R62). -/
def Obligations.StoreThenLoadReturnsTheWord : Prop :=
  ∀ (s t u : State) (a d : Reg) (x : Word), s.mem.wf = true → exec (.st a x) s = .next t →
    exec (.ld d x) t = .next u → u.getReg d = s.getReg a

/-- A pop exactly undoes a push (R213): the word comes back and SP is as before. This is the spec's decision D5.
-/
def Obligations.PopUndoesPush : Prop :=
  ∀ (s t u : State) (a d : Reg), s.mem.wf = true → exec (.push a) s = .next t → exec (.pop d) t = .next u →
    u.getReg d = s.getReg a ∧ u.sp = s.sp

/-- An RTS after a JSR goes to the word after the JSR's extension word, with SP as before the call (R203). R203
derives this from decisions D5 and D6. -/
def Obligations.ReturnUndoesCall : Prop :=
  ∀ (s t u : State) (x : Word), s.mem.wf = true → exec (.jsr x) s = .next t → exec .rts t = .next u →
    u.pc = s.pc + 2 ∧ u.sp = s.sp

/-- A store is seen by the fetch that ends the storing instruction (R79): a store to the word that follows it is
the next instruction. -/
def Obligations.NextFetchSeesTheStore : Prop :=
  ∀ (s t : State), s.mem.wf = true →
    (∀ a : Reg, exec (.st a (s.pc + 2)) s = .next t → t.ir0 = s.getReg a) ∧
    (∀ a b : Reg, s.getReg b = s.pc + 1 → exec (.str a b) s = .next t → t.ir0 = s.getReg a) ∧
    (∀ a : Reg, s.sp = s.pc + 1 → exec (.push a) s = .next t → t.ir0 = s.getReg a) ∧
    (∀ x : Word, s.sp = x → exec (.jsr x) s = .next t → t.ir0 = s.pc + 2)

/-- R70: a write to a framebuffer word emits exactly one pixel event, a write elsewhere none, and the event's
coordinates are the word's offset divided by FB_WIDTH, whatever FB_WIDTH is. That the width is open is the
spec's decision D25 (log entry 2). -/
def Obligations.FramebufferWritesEmitOnePixel : Prop :=
  (∀ (s : State) (a v : Word), 0x8000 ≤ a.toNat → a.toNat ≤ 0xBFFF →
    (s.memWrite a v).events = s.events ++ [Event.pixel a v]) ∧
  (∀ (s : State) (a v : Word), a.toNat < 0x8000 ∨ 0xBFFF < a.toNat → (s.memWrite a v).events = s.events) ∧
  (∀ x y : Nat, x < Config.fbWidth → 0x8000 + (y * Config.fbWidth + x) ≤ 0xBFFF →
    pixelX (BitVec.ofNat 16 (0x8000 + (y * Config.fbWidth + x))) = x ∧
    pixelY (BitVec.ofNat 16 (0x8000 + (y * Config.fbWidth + x))) = y)

/-- R71: a word is its red, green and blue fields, and 0xF800 is full red. -/
def Obligations.PixelWordIsRgb565 : Prop :=
  (∀ v : Word, v.toNat = pixelRed v * 2048 + pixelGreen v * 32 + pixelBlue v ∧
    pixelRed v < 32 ∧ pixelGreen v < 64 ∧ pixelBlue v < 32) ∧
  pixelRed 0xF800 = 31 ∧ pixelGreen 0xF800 = 0 ∧ pixelBlue 0xF800 = 0

/-! ## The host -/

/-- R74: loading an image and reading back every address returns the loaded words. That nothing else changes is
R72's decision D26. -/
def Obligations.ImageRoundTrip : Prop :=
  ∀ (s : State) (ts : List ImageToken), imageWellFormed ts = true →
    (loadImage s ts).failed = none ∧
    (∀ (a : Nat) (w : Word), ts[a]? = some (.word w) → hostRead (loadImage s ts).state a = .ok w) ∧
    (loadImage s ts).state = { s with mem := (loadImage s ts).state.mem }

/-- R72: an image of another size, or with a token that is no number, is rejected and nothing changes. -/
def Obligations.MalformedImageIsRejected : Prop :=
  ∀ (s : State) (ts : List ImageToken), ts.length ≠ 65536 ∨ ImageToken.nonNumeric ∈ ts →
    loadImage s ts = ⟨s, some .malformedImage⟩

/-- R73: a host access at 65536 or above fails and changes nothing; below, a read returns the word at the
address, and a write replaces the word at once, is read back, and changes no other word, emits no event and
changes no register. That it always succeeds below and emits no event are the spec's decisions D29 and D30. -/
def Obligations.HostAccess : Prop :=
  ∀ (s : State) (a : Nat) (v : Word),
    (65536 ≤ a → hostWrite s a v = ⟨s, some (.invalidAddress a)⟩ ∧ hostRead s a = .error (.invalidAddress a)) ∧
    (a < 65536 → hostRead s a = .ok (s.memRead (BitVec.ofNat 16 a))) ∧
    (a < 65536 → s.mem.wf = true → (hostWrite s a v).failed = none ∧ hostRead (hostWrite s a v).state a = .ok v ∧
      (∀ b, b ≠ a → hostRead (hostWrite s a v).state b = hostRead s b) ∧
      (hostWrite s a v).state = { s with mem := (hostWrite s a v).state.mem })

/-- R320, R321: Reset, from any state, clears everything but RAM, sets SP to 0xFFFF, primes IR0 and the holding
pair from address 0, and leaves the input ports; the CORE is halted after it only if address 0 holds a HLT word.
That RAM stays and what ramOut takes are the spec's decisions D18 and D19. That the count of draws and the
events not yet drained stay is the model's choice, log entries 1 and 3. -/
def Obligations.ResetClearsAllButRam : Prop :=
  ∀ s : State, let t := resetMachine s
    t.clk = false ∧ t.phases = Phases.none ∧ t.wl = false ∧ (∀ r, t.getReg r = 0) ∧ t.pc = 0 ∧ t.flags = 0 ∧
    t.ir1 = 0 ∧ t.ramaddrLatch = 0 ∧ t.sp = 0xFFFF ∧ t.ir0 = s.memRead 0 ∧ t.ramAddr = 0 ∧ t.ramOut = s.memRead 0 ∧
    t.mem = s.mem ∧ t.inPins = s.inPins ∧ t.inDraws = s.inDraws ∧ t.events = s.events ∧
    (halted t = true ↔ classField (s.memRead 0) = 7 ∧ subField (s.memRead 0) = 0)

/-- R333: RunFrame at frequency 0 is one tick, and at frequency F > 0 it is 10·F ticks. -/
def Obligations.RunFrameTicks : Prop :=
  ∀ s : State, runFrame 0 s = tick s ∧ ∀ f : Nat, 0 < f → runFrame f s = tickN (10 * f) s
end

