-- ==== Sys2Proof/Laws/PerInstr.lean ====
section
/-! SUPPORT. The per-instruction family EncodingFits: every instruction's encoding has a class and a
subopcode that fit their fields (spec/30_encoding.md R91), and an extension word exactly where R90's list
of lengths gives one. -/

namespace Sys2Proof.Laws.EncodingFits

/-- The class fits three bits, the subopcode four, and the extension word is there exactly when R90 says so. -/
def Statement (i : Instr) : Prop :=
  (encodingOf i).cls < 8 ∧ (encodingOf i).sub < 16 ∧
    (encodingOf i).ext.isSome = hasExtension (encodingOf i).cls (encodingOf i).sub

theorem add (dst srcA srcB : Reg) : Statement (.add dst srcA srcB) := ⟨Nat.le_of_ble_eq_true rfl, Nat.le_of_ble_eq_true rfl, rfl⟩
theorem sub (dst srcA srcB : Reg) : Statement (.sub dst srcA srcB) := ⟨Nat.le_of_ble_eq_true rfl, Nat.le_of_ble_eq_true rfl, rfl⟩
theorem mul (dst srcA srcB : Reg) : Statement (.mul dst srcA srcB) := ⟨Nat.le_of_ble_eq_true rfl, Nat.le_of_ble_eq_true rfl, rfl⟩
theorem div (dst srcA srcB : Reg) : Statement (.div dst srcA srcB) := ⟨Nat.le_of_ble_eq_true rfl, Nat.le_of_ble_eq_true rfl, rfl⟩
theorem mod (dst srcA srcB : Reg) : Statement (.mod dst srcA srcB) := ⟨Nat.le_of_ble_eq_true rfl, Nat.le_of_ble_eq_true rfl, rfl⟩
theorem and (dst srcA srcB : Reg) : Statement (.and dst srcA srcB) := ⟨Nat.le_of_ble_eq_true rfl, Nat.le_of_ble_eq_true rfl, rfl⟩
theorem or (dst srcA srcB : Reg) : Statement (.or dst srcA srcB) := ⟨Nat.le_of_ble_eq_true rfl, Nat.le_of_ble_eq_true rfl, rfl⟩
theorem nand (dst srcA srcB : Reg) : Statement (.nand dst srcA srcB) := ⟨Nat.le_of_ble_eq_true rfl, Nat.le_of_ble_eq_true rfl, rfl⟩
theorem nor (dst srcA srcB : Reg) : Statement (.nor dst srcA srcB) := ⟨Nat.le_of_ble_eq_true rfl, Nat.le_of_ble_eq_true rfl, rfl⟩
theorem xor (dst srcA srcB : Reg) : Statement (.xor dst srcA srcB) := ⟨Nat.le_of_ble_eq_true rfl, Nat.le_of_ble_eq_true rfl, rfl⟩
theorem zero10 (dst : Reg) : Statement (.zero10 dst) := ⟨Nat.le_of_ble_eq_true rfl, Nat.le_of_ble_eq_true rfl, rfl⟩
theorem zero11 (dst : Reg) : Statement (.zero11 dst) := ⟨Nat.le_of_ble_eq_true rfl, Nat.le_of_ble_eq_true rfl, rfl⟩
theorem zero12 (dst : Reg) : Statement (.zero12 dst) := ⟨Nat.le_of_ble_eq_true rfl, Nat.le_of_ble_eq_true rfl, rfl⟩
theorem zero13 (dst : Reg) : Statement (.zero13 dst) := ⟨Nat.le_of_ble_eq_true rfl, Nat.le_of_ble_eq_true rfl, rfl⟩
theorem zero14 (dst : Reg) : Statement (.zero14 dst) := ⟨Nat.le_of_ble_eq_true rfl, Nat.le_of_ble_eq_true rfl, rfl⟩
theorem zero15 (dst : Reg) : Statement (.zero15 dst) := ⟨Nat.le_of_ble_eq_true rfl, Nat.le_of_ble_eq_true rfl, rfl⟩
theorem nop1_0 : Statement .nop1_0 := ⟨Nat.le_of_ble_eq_true rfl, Nat.le_of_ble_eq_true rfl, rfl⟩
theorem nop1_1 : Statement .nop1_1 := ⟨Nat.le_of_ble_eq_true rfl, Nat.le_of_ble_eq_true rfl, rfl⟩
theorem nop1_2 : Statement .nop1_2 := ⟨Nat.le_of_ble_eq_true rfl, Nat.le_of_ble_eq_true rfl, rfl⟩
theorem nop1_3 : Statement .nop1_3 := ⟨Nat.le_of_ble_eq_true rfl, Nat.le_of_ble_eq_true rfl, rfl⟩
theorem nop1_4 : Statement .nop1_4 := ⟨Nat.le_of_ble_eq_true rfl, Nat.le_of_ble_eq_true rfl, rfl⟩
theorem nop1_5 : Statement .nop1_5 := ⟨Nat.le_of_ble_eq_true rfl, Nat.le_of_ble_eq_true rfl, rfl⟩
theorem nop1_6 : Statement .nop1_6 := ⟨Nat.le_of_ble_eq_true rfl, Nat.le_of_ble_eq_true rfl, rfl⟩
theorem nop1_7 : Statement .nop1_7 := ⟨Nat.le_of_ble_eq_true rfl, Nat.le_of_ble_eq_true rfl, rfl⟩
theorem nop1_8 : Statement .nop1_8 := ⟨Nat.le_of_ble_eq_true rfl, Nat.le_of_ble_eq_true rfl, rfl⟩
theorem nop1_9 : Statement .nop1_9 := ⟨Nat.le_of_ble_eq_true rfl, Nat.le_of_ble_eq_true rfl, rfl⟩
theorem cmp (srcA srcB : Reg) : Statement (.cmp srcA srcB) := ⟨Nat.le_of_ble_eq_true rfl, Nat.le_of_ble_eq_true rfl, rfl⟩
theorem not (dst srcA : Reg) : Statement (.not dst srcA) := ⟨Nat.le_of_ble_eq_true rfl, Nat.le_of_ble_eq_true rfl, rfl⟩
theorem nop1_12 : Statement .nop1_12 := ⟨Nat.le_of_ble_eq_true rfl, Nat.le_of_ble_eq_true rfl, rfl⟩
theorem nop1_13 : Statement .nop1_13 := ⟨Nat.le_of_ble_eq_true rfl, Nat.le_of_ble_eq_true rfl, rfl⟩
theorem nop1_14 : Statement .nop1_14 := ⟨Nat.le_of_ble_eq_true rfl, Nat.le_of_ble_eq_true rfl, rfl⟩
theorem nop1_15 : Statement .nop1_15 := ⟨Nat.le_of_ble_eq_true rfl, Nat.le_of_ble_eq_true rfl, rfl⟩
theorem ldi (dst : Reg) (ext : Word) : Statement (.ldi dst ext) := ⟨Nat.le_of_ble_eq_true rfl, Nat.le_of_ble_eq_true rfl, rfl⟩
theorem ldi1 (dst : Reg) (ext : Word) : Statement (.ldi1 dst ext) := ⟨Nat.le_of_ble_eq_true rfl, Nat.le_of_ble_eq_true rfl, rfl⟩
theorem ldi2 (dst : Reg) (ext : Word) : Statement (.ldi2 dst ext) := ⟨Nat.le_of_ble_eq_true rfl, Nat.le_of_ble_eq_true rfl, rfl⟩
theorem ldi3 (dst : Reg) (ext : Word) : Statement (.ldi3 dst ext) := ⟨Nat.le_of_ble_eq_true rfl, Nat.le_of_ble_eq_true rfl, rfl⟩
theorem ldi4 (dst : Reg) (ext : Word) : Statement (.ldi4 dst ext) := ⟨Nat.le_of_ble_eq_true rfl, Nat.le_of_ble_eq_true rfl, rfl⟩
theorem ldi5 (dst : Reg) (ext : Word) : Statement (.ldi5 dst ext) := ⟨Nat.le_of_ble_eq_true rfl, Nat.le_of_ble_eq_true rfl, rfl⟩
theorem ldi6 (dst : Reg) (ext : Word) : Statement (.ldi6 dst ext) := ⟨Nat.le_of_ble_eq_true rfl, Nat.le_of_ble_eq_true rfl, rfl⟩
theorem ldi7 (dst : Reg) (ext : Word) : Statement (.ldi7 dst ext) := ⟨Nat.le_of_ble_eq_true rfl, Nat.le_of_ble_eq_true rfl, rfl⟩
theorem ldi8 (dst : Reg) (ext : Word) : Statement (.ldi8 dst ext) := ⟨Nat.le_of_ble_eq_true rfl, Nat.le_of_ble_eq_true rfl, rfl⟩
theorem ldi9 (dst : Reg) (ext : Word) : Statement (.ldi9 dst ext) := ⟨Nat.le_of_ble_eq_true rfl, Nat.le_of_ble_eq_true rfl, rfl⟩
theorem ldi10 (dst : Reg) (ext : Word) : Statement (.ldi10 dst ext) := ⟨Nat.le_of_ble_eq_true rfl, Nat.le_of_ble_eq_true rfl, rfl⟩
theorem ldi11 (dst : Reg) (ext : Word) : Statement (.ldi11 dst ext) := ⟨Nat.le_of_ble_eq_true rfl, Nat.le_of_ble_eq_true rfl, rfl⟩
theorem ldi12 (dst : Reg) (ext : Word) : Statement (.ldi12 dst ext) := ⟨Nat.le_of_ble_eq_true rfl, Nat.le_of_ble_eq_true rfl, rfl⟩
theorem ldi13 (dst : Reg) (ext : Word) : Statement (.ldi13 dst ext) := ⟨Nat.le_of_ble_eq_true rfl, Nat.le_of_ble_eq_true rfl, rfl⟩
theorem ldi14 (dst : Reg) (ext : Word) : Statement (.ldi14 dst ext) := ⟨Nat.le_of_ble_eq_true rfl, Nat.le_of_ble_eq_true rfl, rfl⟩
theorem ldi15 (dst : Reg) (ext : Word) : Statement (.ldi15 dst ext) := ⟨Nat.le_of_ble_eq_true rfl, Nat.le_of_ble_eq_true rfl, rfl⟩
theorem ld (dst : Reg) (ext : Word) : Statement (.ld dst ext) := ⟨Nat.le_of_ble_eq_true rfl, Nat.le_of_ble_eq_true rfl, rfl⟩
theorem st (srcA : Reg) (ext : Word) : Statement (.st srcA ext) := ⟨Nat.le_of_ble_eq_true rfl, Nat.le_of_ble_eq_true rfl, rfl⟩
theorem str (srcA srcB : Reg) : Statement (.str srcA srcB) := ⟨Nat.le_of_ble_eq_true rfl, Nat.le_of_ble_eq_true rfl, rfl⟩
theorem ldr (dst srcB : Reg) : Statement (.ldr dst srcB) := ⟨Nat.le_of_ble_eq_true rfl, Nat.le_of_ble_eq_true rfl, rfl⟩
theorem nop3_4 : Statement .nop3_4 := ⟨Nat.le_of_ble_eq_true rfl, Nat.le_of_ble_eq_true rfl, rfl⟩
theorem nop3_5 : Statement .nop3_5 := ⟨Nat.le_of_ble_eq_true rfl, Nat.le_of_ble_eq_true rfl, rfl⟩
theorem nop3_6 : Statement .nop3_6 := ⟨Nat.le_of_ble_eq_true rfl, Nat.le_of_ble_eq_true rfl, rfl⟩
theorem nop3_7 : Statement .nop3_7 := ⟨Nat.le_of_ble_eq_true rfl, Nat.le_of_ble_eq_true rfl, rfl⟩
theorem nop3_8 : Statement .nop3_8 := ⟨Nat.le_of_ble_eq_true rfl, Nat.le_of_ble_eq_true rfl, rfl⟩
theorem nop3_9 : Statement .nop3_9 := ⟨Nat.le_of_ble_eq_true rfl, Nat.le_of_ble_eq_true rfl, rfl⟩
theorem nop3_10 : Statement .nop3_10 := ⟨Nat.le_of_ble_eq_true rfl, Nat.le_of_ble_eq_true rfl, rfl⟩
theorem nop3_11 : Statement .nop3_11 := ⟨Nat.le_of_ble_eq_true rfl, Nat.le_of_ble_eq_true rfl, rfl⟩
theorem nop3_12 : Statement .nop3_12 := ⟨Nat.le_of_ble_eq_true rfl, Nat.le_of_ble_eq_true rfl, rfl⟩
theorem nop3_13 : Statement .nop3_13 := ⟨Nat.le_of_ble_eq_true rfl, Nat.le_of_ble_eq_true rfl, rfl⟩
theorem nop3_14 : Statement .nop3_14 := ⟨Nat.le_of_ble_eq_true rfl, Nat.le_of_ble_eq_true rfl, rfl⟩
theorem nop3_15 : Statement .nop3_15 := ⟨Nat.le_of_ble_eq_true rfl, Nat.le_of_ble_eq_true rfl, rfl⟩
theorem jmp (ext : Word) : Statement (.jmp ext) := ⟨Nat.le_of_ble_eq_true rfl, Nat.le_of_ble_eq_true rfl, rfl⟩
theorem jc (ext : Word) : Statement (.jc ext) := ⟨Nat.le_of_ble_eq_true rfl, Nat.le_of_ble_eq_true rfl, rfl⟩
theorem jnc (ext : Word) : Statement (.jnc ext) := ⟨Nat.le_of_ble_eq_true rfl, Nat.le_of_ble_eq_true rfl, rfl⟩
theorem jv (ext : Word) : Statement (.jv ext) := ⟨Nat.le_of_ble_eq_true rfl, Nat.le_of_ble_eq_true rfl, rfl⟩
theorem jcv (ext : Word) : Statement (.jcv ext) := ⟨Nat.le_of_ble_eq_true rfl, Nat.le_of_ble_eq_true rfl, rfl⟩
theorem jncv (ext : Word) : Statement (.jncv ext) := ⟨Nat.le_of_ble_eq_true rfl, Nat.le_of_ble_eq_true rfl, rfl⟩
theorem jnv (ext : Word) : Statement (.jnv ext) := ⟨Nat.le_of_ble_eq_true rfl, Nat.le_of_ble_eq_true rfl, rfl⟩
theorem jlt (ext : Word) : Statement (.jlt ext) := ⟨Nat.le_of_ble_eq_true rfl, Nat.le_of_ble_eq_true rfl, rfl⟩
theorem jclt (ext : Word) : Statement (.jclt ext) := ⟨Nat.le_of_ble_eq_true rfl, Nat.le_of_ble_eq_true rfl, rfl⟩
theorem jnclt (ext : Word) : Statement (.jnclt ext) := ⟨Nat.le_of_ble_eq_true rfl, Nat.le_of_ble_eq_true rfl, rfl⟩
theorem jlta (ext : Word) : Statement (.jlta ext) := ⟨Nat.le_of_ble_eq_true rfl, Nat.le_of_ble_eq_true rfl, rfl⟩
theorem jsr (ext : Word) : Statement (.jsr ext) := ⟨Nat.le_of_ble_eq_true rfl, Nat.le_of_ble_eq_true rfl, rfl⟩
theorem rts : Statement .rts := ⟨Nat.le_of_ble_eq_true rfl, Nat.le_of_ble_eq_true rfl, rfl⟩
theorem nop4_13 : Statement .nop4_13 := ⟨Nat.le_of_ble_eq_true rfl, Nat.le_of_ble_eq_true rfl, rfl⟩
theorem nop4_14 : Statement .nop4_14 := ⟨Nat.le_of_ble_eq_true rfl, Nat.le_of_ble_eq_true rfl, rfl⟩
theorem nop4_15 : Statement .nop4_15 := ⟨Nat.le_of_ble_eq_true rfl, Nat.le_of_ble_eq_true rfl, rfl⟩
theorem push (srcA : Reg) : Statement (.push srcA) := ⟨Nat.le_of_ble_eq_true rfl, Nat.le_of_ble_eq_true rfl, rfl⟩
theorem pop (dst : Reg) : Statement (.pop dst) := ⟨Nat.le_of_ble_eq_true rfl, Nat.le_of_ble_eq_true rfl, rfl⟩
theorem push2 (srcA : Reg) : Statement (.push2 srcA) := ⟨Nat.le_of_ble_eq_true rfl, Nat.le_of_ble_eq_true rfl, rfl⟩
theorem push3 (srcA : Reg) : Statement (.push3 srcA) := ⟨Nat.le_of_ble_eq_true rfl, Nat.le_of_ble_eq_true rfl, rfl⟩
theorem push4 (srcA : Reg) : Statement (.push4 srcA) := ⟨Nat.le_of_ble_eq_true rfl, Nat.le_of_ble_eq_true rfl, rfl⟩
theorem push5 (srcA : Reg) : Statement (.push5 srcA) := ⟨Nat.le_of_ble_eq_true rfl, Nat.le_of_ble_eq_true rfl, rfl⟩
theorem push6 (srcA : Reg) : Statement (.push6 srcA) := ⟨Nat.le_of_ble_eq_true rfl, Nat.le_of_ble_eq_true rfl, rfl⟩
theorem push7 (srcA : Reg) : Statement (.push7 srcA) := ⟨Nat.le_of_ble_eq_true rfl, Nat.le_of_ble_eq_true rfl, rfl⟩
theorem push8 (srcA : Reg) : Statement (.push8 srcA) := ⟨Nat.le_of_ble_eq_true rfl, Nat.le_of_ble_eq_true rfl, rfl⟩
theorem push9 (srcA : Reg) : Statement (.push9 srcA) := ⟨Nat.le_of_ble_eq_true rfl, Nat.le_of_ble_eq_true rfl, rfl⟩
theorem push10 (srcA : Reg) : Statement (.push10 srcA) := ⟨Nat.le_of_ble_eq_true rfl, Nat.le_of_ble_eq_true rfl, rfl⟩
theorem push11 (srcA : Reg) : Statement (.push11 srcA) := ⟨Nat.le_of_ble_eq_true rfl, Nat.le_of_ble_eq_true rfl, rfl⟩
theorem push12 (srcA : Reg) : Statement (.push12 srcA) := ⟨Nat.le_of_ble_eq_true rfl, Nat.le_of_ble_eq_true rfl, rfl⟩
theorem push13 (srcA : Reg) : Statement (.push13 srcA) := ⟨Nat.le_of_ble_eq_true rfl, Nat.le_of_ble_eq_true rfl, rfl⟩
theorem push14 (srcA : Reg) : Statement (.push14 srcA) := ⟨Nat.le_of_ble_eq_true rfl, Nat.le_of_ble_eq_true rfl, rfl⟩
theorem push15 (srcA : Reg) : Statement (.push15 srcA) := ⟨Nat.le_of_ble_eq_true rfl, Nat.le_of_ble_eq_true rfl, rfl⟩
theorem nop6_0 : Statement .nop6_0 := ⟨Nat.le_of_ble_eq_true rfl, Nat.le_of_ble_eq_true rfl, rfl⟩
theorem nop6_1 : Statement .nop6_1 := ⟨Nat.le_of_ble_eq_true rfl, Nat.le_of_ble_eq_true rfl, rfl⟩
theorem nop6_2 : Statement .nop6_2 := ⟨Nat.le_of_ble_eq_true rfl, Nat.le_of_ble_eq_true rfl, rfl⟩
theorem nop6_3 : Statement .nop6_3 := ⟨Nat.le_of_ble_eq_true rfl, Nat.le_of_ble_eq_true rfl, rfl⟩
theorem nop6_4 : Statement .nop6_4 := ⟨Nat.le_of_ble_eq_true rfl, Nat.le_of_ble_eq_true rfl, rfl⟩
theorem nop6_5 : Statement .nop6_5 := ⟨Nat.le_of_ble_eq_true rfl, Nat.le_of_ble_eq_true rfl, rfl⟩
theorem nop6_6 : Statement .nop6_6 := ⟨Nat.le_of_ble_eq_true rfl, Nat.le_of_ble_eq_true rfl, rfl⟩
theorem nop6_7 : Statement .nop6_7 := ⟨Nat.le_of_ble_eq_true rfl, Nat.le_of_ble_eq_true rfl, rfl⟩
theorem nop6_8 : Statement .nop6_8 := ⟨Nat.le_of_ble_eq_true rfl, Nat.le_of_ble_eq_true rfl, rfl⟩
theorem nop6_9 : Statement .nop6_9 := ⟨Nat.le_of_ble_eq_true rfl, Nat.le_of_ble_eq_true rfl, rfl⟩
theorem nop6_10 : Statement .nop6_10 := ⟨Nat.le_of_ble_eq_true rfl, Nat.le_of_ble_eq_true rfl, rfl⟩
theorem nop6_11 : Statement .nop6_11 := ⟨Nat.le_of_ble_eq_true rfl, Nat.le_of_ble_eq_true rfl, rfl⟩
theorem nop6_12 : Statement .nop6_12 := ⟨Nat.le_of_ble_eq_true rfl, Nat.le_of_ble_eq_true rfl, rfl⟩
theorem nop6_13 : Statement .nop6_13 := ⟨Nat.le_of_ble_eq_true rfl, Nat.le_of_ble_eq_true rfl, rfl⟩
theorem nop6_14 : Statement .nop6_14 := ⟨Nat.le_of_ble_eq_true rfl, Nat.le_of_ble_eq_true rfl, rfl⟩
theorem nop6_15 : Statement .nop6_15 := ⟨Nat.le_of_ble_eq_true rfl, Nat.le_of_ble_eq_true rfl, rfl⟩
theorem hlt : Statement .hlt := ⟨Nat.le_of_ble_eq_true rfl, Nat.le_of_ble_eq_true rfl, rfl⟩
theorem inA (dst : Reg) : Statement (.inA dst) := ⟨Nat.le_of_ble_eq_true rfl, Nat.le_of_ble_eq_true rfl, rfl⟩
theorem inB (dst : Reg) : Statement (.inB dst) := ⟨Nat.le_of_ble_eq_true rfl, Nat.le_of_ble_eq_true rfl, rfl⟩
theorem inC (dst : Reg) : Statement (.inC dst) := ⟨Nat.le_of_ble_eq_true rfl, Nat.le_of_ble_eq_true rfl, rfl⟩
theorem outA (srcA : Reg) : Statement (.outA srcA) := ⟨Nat.le_of_ble_eq_true rfl, Nat.le_of_ble_eq_true rfl, rfl⟩
theorem outB (srcA : Reg) : Statement (.outB srcA) := ⟨Nat.le_of_ble_eq_true rfl, Nat.le_of_ble_eq_true rfl, rfl⟩
theorem outC (srcA : Reg) : Statement (.outC srcA) := ⟨Nat.le_of_ble_eq_true rfl, Nat.le_of_ble_eq_true rfl, rfl⟩
theorem nop7_7 : Statement .nop7_7 := ⟨Nat.le_of_ble_eq_true rfl, Nat.le_of_ble_eq_true rfl, rfl⟩
theorem nop7_8 : Statement .nop7_8 := ⟨Nat.le_of_ble_eq_true rfl, Nat.le_of_ble_eq_true rfl, rfl⟩
theorem nop7_9 : Statement .nop7_9 := ⟨Nat.le_of_ble_eq_true rfl, Nat.le_of_ble_eq_true rfl, rfl⟩
theorem nop7_10 : Statement .nop7_10 := ⟨Nat.le_of_ble_eq_true rfl, Nat.le_of_ble_eq_true rfl, rfl⟩
theorem nop7_11 : Statement .nop7_11 := ⟨Nat.le_of_ble_eq_true rfl, Nat.le_of_ble_eq_true rfl, rfl⟩
theorem nop7_12 : Statement .nop7_12 := ⟨Nat.le_of_ble_eq_true rfl, Nat.le_of_ble_eq_true rfl, rfl⟩
theorem nop7_13 : Statement .nop7_13 := ⟨Nat.le_of_ble_eq_true rfl, Nat.le_of_ble_eq_true rfl, rfl⟩
theorem nop7_14 : Statement .nop7_14 := ⟨Nat.le_of_ble_eq_true rfl, Nat.le_of_ble_eq_true rfl, rfl⟩
theorem nop7_15 : Statement .nop7_15 := ⟨Nat.le_of_ble_eq_true rfl, Nat.le_of_ble_eq_true rfl, rfl⟩

end Sys2Proof.Laws.EncodingFits
end

