-- ==== Sys2Proof/Laws/Decode.lean ====
section
/-! SUPPORT. The fields of an assembled word: what the encoder put in is what the decoder's field
extraction takes out (spec/30_encoding.md R91). -/

namespace Sys2Proof

/-- The assembled word as a number: nothing wraps. -/
theorem assemble_toNat {c s : Nat} (hc : c < 8) (hs : s < 16) (d a b : Reg) :
    (assemble c s d a b).toNat = c * 0x2000 + s * 0x200 + d.val * 0x40 + a.val * 8 + b.val := by
  have hd := d.isLt; have ha := a.isLt; have hb := b.isLt
  rw [assemble, BitVec.toNat_ofNat]
  omega

theorem classField_assemble {c s : Nat} (hc : c < 8) (hs : s < 16) (d a b : Reg) :
    classField (assemble c s d a b) = c := by
  have hd := d.isLt; have ha := a.isLt; have hb := b.isLt
  simp only [classField, bitField, assemble_toNat hc hs]
  omega

theorem subField_assemble {c s : Nat} (hc : c < 8) (hs : s < 16) (d a b : Reg) :
    subField (assemble c s d a b) = s := by
  have hd := d.isLt; have ha := a.isLt; have hb := b.isLt
  simp only [subField, bitField, assemble_toNat hc hs]
  omega

theorem dstField_assemble {c s : Nat} (hc : c < 8) (hs : s < 16) (d a b : Reg) :
    dstField (assemble c s d a b) = d := by
  have hd := d.isLt; have ha := a.isLt; have hb := b.isLt
  apply Fin.ext
  simp only [dstField, bitField, assemble_toNat hc hs, Fin.val_ofNat]
  omega

theorem srcAField_assemble {c s : Nat} (hc : c < 8) (hs : s < 16) (d a b : Reg) :
    srcAField (assemble c s d a b) = a := by
  have hd := d.isLt; have ha := a.isLt; have hb := b.isLt
  apply Fin.ext
  simp only [srcAField, bitField, assemble_toNat hc hs, Fin.val_ofNat]
  omega

theorem srcBField_assemble {c s : Nat} (hc : c < 8) (hs : s < 16) (d a b : Reg) :
    srcBField (assemble c s d a b) = b := by
  have hd := d.isLt; have ha := a.isLt; have hb := b.isLt
  apply Fin.ext
  simp only [srcBField, bitField, assemble_toNat hc hs, Fin.val_ofNat]
  omega

/-- A class is one of eight. -/
theorem classField_lt (w : Word) : classField w < 8 := Nat.mod_lt _ (by decide)

/-- A subopcode is one of sixteen. -/
theorem subField_lt (w : Word) : subField w < 16 := Nat.mod_lt _ (by decide)

end Sys2Proof
end

