-- ==== Sys2Proof/Laws/State.lean ====
section
/-! SUPPORT. Reading one field of the state after one update: every lemma is true by `rfl` and tagged
`@[simp]`, so that no proof unfolds a record update. Then a register, a memory word or a port read through
the updates that leave it alone. -/

namespace Sys2Proof.Machine

/-! `State.setReg` -/

@[simp] theorem State.setReg_regs (s : State) (i : Reg) (v : Word) : (s.setReg i v).regs = s.regs.set i v := rfl
@[simp] theorem State.setReg_pc (s : State) (i : Reg) (v : Word) : (s.setReg i v).pc = s.pc := rfl
@[simp] theorem State.setReg_sp (s : State) (i : Reg) (v : Word) : (s.setReg i v).sp = s.sp := rfl
@[simp] theorem State.setReg_flags (s : State) (i : Reg) (v : Word) : (s.setReg i v).flags = s.flags := rfl
@[simp] theorem State.setReg_ir0 (s : State) (i : Reg) (v : Word) : (s.setReg i v).ir0 = s.ir0 := rfl
@[simp] theorem State.setReg_ir1 (s : State) (i : Reg) (v : Word) : (s.setReg i v).ir1 = s.ir1 := rfl
@[simp] theorem State.setReg_ramaddrLatch (s : State) (i : Reg) (v : Word) : (s.setReg i v).ramaddrLatch = s.ramaddrLatch := rfl
@[simp] theorem State.setReg_phases (s : State) (i : Reg) (v : Word) : (s.setReg i v).phases = s.phases := rfl
@[simp] theorem State.setReg_wl (s : State) (i : Reg) (v : Word) : (s.setReg i v).wl = s.wl := rfl
@[simp] theorem State.setReg_clk (s : State) (i : Reg) (v : Word) : (s.setReg i v).clk = s.clk := rfl
@[simp] theorem State.setReg_ramAddr (s : State) (i : Reg) (v : Word) : (s.setReg i v).ramAddr = s.ramAddr := rfl
@[simp] theorem State.setReg_ramOut (s : State) (i : Reg) (v : Word) : (s.setReg i v).ramOut = s.ramOut := rfl
@[simp] theorem State.setReg_mem (s : State) (i : Reg) (v : Word) : (s.setReg i v).mem = s.mem := rfl
@[simp] theorem State.setReg_inPins (s : State) (i : Reg) (v : Word) : (s.setReg i v).inPins = s.inPins := rfl
@[simp] theorem State.setReg_inDraws (s : State) (i : Reg) (v : Word) : (s.setReg i v).inDraws = s.inDraws := rfl
@[simp] theorem State.setReg_events (s : State) (i : Reg) (v : Word) : (s.setReg i v).events = s.events := rfl
@[simp] theorem State.setReg_memRead (s : State) (i : Reg) (v : Word) (x : Word) :
    (s.setReg i v).memRead x = s.memRead x := rfl
@[simp] theorem State.setReg_portValue (s : State) (i : Reg) (v : Word) (q : Port) :
    (s.setReg i v).portValue q = s.portValue q := rfl

/-! `State.setPc` -/

@[simp] theorem State.setPc_regs (s : State) (v : Word) : (s.setPc v).regs = s.regs := rfl
@[simp] theorem State.setPc_pc (s : State) (v : Word) : (s.setPc v).pc = v := rfl
@[simp] theorem State.setPc_sp (s : State) (v : Word) : (s.setPc v).sp = s.sp := rfl
@[simp] theorem State.setPc_flags (s : State) (v : Word) : (s.setPc v).flags = s.flags := rfl
@[simp] theorem State.setPc_ir0 (s : State) (v : Word) : (s.setPc v).ir0 = s.ir0 := rfl
@[simp] theorem State.setPc_ir1 (s : State) (v : Word) : (s.setPc v).ir1 = s.ir1 := rfl
@[simp] theorem State.setPc_ramaddrLatch (s : State) (v : Word) : (s.setPc v).ramaddrLatch = s.ramaddrLatch := rfl
@[simp] theorem State.setPc_phases (s : State) (v : Word) : (s.setPc v).phases = s.phases := rfl
@[simp] theorem State.setPc_wl (s : State) (v : Word) : (s.setPc v).wl = s.wl := rfl
@[simp] theorem State.setPc_clk (s : State) (v : Word) : (s.setPc v).clk = s.clk := rfl
@[simp] theorem State.setPc_ramAddr (s : State) (v : Word) : (s.setPc v).ramAddr = s.ramAddr := rfl
@[simp] theorem State.setPc_ramOut (s : State) (v : Word) : (s.setPc v).ramOut = s.ramOut := rfl
@[simp] theorem State.setPc_mem (s : State) (v : Word) : (s.setPc v).mem = s.mem := rfl
@[simp] theorem State.setPc_inPins (s : State) (v : Word) : (s.setPc v).inPins = s.inPins := rfl
@[simp] theorem State.setPc_inDraws (s : State) (v : Word) : (s.setPc v).inDraws = s.inDraws := rfl
@[simp] theorem State.setPc_events (s : State) (v : Word) : (s.setPc v).events = s.events := rfl
@[simp] theorem State.setPc_getReg (s : State) (v : Word) (j : Reg) :
    (s.setPc v).getReg j = s.getReg j := rfl
@[simp] theorem State.setPc_memRead (s : State) (v : Word) (x : Word) :
    (s.setPc v).memRead x = s.memRead x := rfl
@[simp] theorem State.setPc_portValue (s : State) (v : Word) (q : Port) :
    (s.setPc v).portValue q = s.portValue q := rfl

/-! `State.setSp` -/

@[simp] theorem State.setSp_regs (s : State) (v : Word) : (s.setSp v).regs = s.regs := rfl
@[simp] theorem State.setSp_pc (s : State) (v : Word) : (s.setSp v).pc = s.pc := rfl
@[simp] theorem State.setSp_sp (s : State) (v : Word) : (s.setSp v).sp = v := rfl
@[simp] theorem State.setSp_flags (s : State) (v : Word) : (s.setSp v).flags = s.flags := rfl
@[simp] theorem State.setSp_ir0 (s : State) (v : Word) : (s.setSp v).ir0 = s.ir0 := rfl
@[simp] theorem State.setSp_ir1 (s : State) (v : Word) : (s.setSp v).ir1 = s.ir1 := rfl
@[simp] theorem State.setSp_ramaddrLatch (s : State) (v : Word) : (s.setSp v).ramaddrLatch = s.ramaddrLatch := rfl
@[simp] theorem State.setSp_phases (s : State) (v : Word) : (s.setSp v).phases = s.phases := rfl
@[simp] theorem State.setSp_wl (s : State) (v : Word) : (s.setSp v).wl = s.wl := rfl
@[simp] theorem State.setSp_clk (s : State) (v : Word) : (s.setSp v).clk = s.clk := rfl
@[simp] theorem State.setSp_ramAddr (s : State) (v : Word) : (s.setSp v).ramAddr = s.ramAddr := rfl
@[simp] theorem State.setSp_ramOut (s : State) (v : Word) : (s.setSp v).ramOut = s.ramOut := rfl
@[simp] theorem State.setSp_mem (s : State) (v : Word) : (s.setSp v).mem = s.mem := rfl
@[simp] theorem State.setSp_inPins (s : State) (v : Word) : (s.setSp v).inPins = s.inPins := rfl
@[simp] theorem State.setSp_inDraws (s : State) (v : Word) : (s.setSp v).inDraws = s.inDraws := rfl
@[simp] theorem State.setSp_events (s : State) (v : Word) : (s.setSp v).events = s.events := rfl
@[simp] theorem State.setSp_getReg (s : State) (v : Word) (j : Reg) :
    (s.setSp v).getReg j = s.getReg j := rfl
@[simp] theorem State.setSp_memRead (s : State) (v : Word) (x : Word) :
    (s.setSp v).memRead x = s.memRead x := rfl
@[simp] theorem State.setSp_portValue (s : State) (v : Word) (q : Port) :
    (s.setSp v).portValue q = s.portValue q := rfl

/-! `State.setFlags` -/

@[simp] theorem State.setFlags_regs (s : State) (f : BitVec 4) : (s.setFlags f).regs = s.regs := rfl
@[simp] theorem State.setFlags_pc (s : State) (f : BitVec 4) : (s.setFlags f).pc = s.pc := rfl
@[simp] theorem State.setFlags_sp (s : State) (f : BitVec 4) : (s.setFlags f).sp = s.sp := rfl
@[simp] theorem State.setFlags_flags (s : State) (f : BitVec 4) : (s.setFlags f).flags = f := rfl
@[simp] theorem State.setFlags_ir0 (s : State) (f : BitVec 4) : (s.setFlags f).ir0 = s.ir0 := rfl
@[simp] theorem State.setFlags_ir1 (s : State) (f : BitVec 4) : (s.setFlags f).ir1 = s.ir1 := rfl
@[simp] theorem State.setFlags_ramaddrLatch (s : State) (f : BitVec 4) : (s.setFlags f).ramaddrLatch = s.ramaddrLatch := rfl
@[simp] theorem State.setFlags_phases (s : State) (f : BitVec 4) : (s.setFlags f).phases = s.phases := rfl
@[simp] theorem State.setFlags_wl (s : State) (f : BitVec 4) : (s.setFlags f).wl = s.wl := rfl
@[simp] theorem State.setFlags_clk (s : State) (f : BitVec 4) : (s.setFlags f).clk = s.clk := rfl
@[simp] theorem State.setFlags_ramAddr (s : State) (f : BitVec 4) : (s.setFlags f).ramAddr = s.ramAddr := rfl
@[simp] theorem State.setFlags_ramOut (s : State) (f : BitVec 4) : (s.setFlags f).ramOut = s.ramOut := rfl
@[simp] theorem State.setFlags_mem (s : State) (f : BitVec 4) : (s.setFlags f).mem = s.mem := rfl
@[simp] theorem State.setFlags_inPins (s : State) (f : BitVec 4) : (s.setFlags f).inPins = s.inPins := rfl
@[simp] theorem State.setFlags_inDraws (s : State) (f : BitVec 4) : (s.setFlags f).inDraws = s.inDraws := rfl
@[simp] theorem State.setFlags_events (s : State) (f : BitVec 4) : (s.setFlags f).events = s.events := rfl
@[simp] theorem State.setFlags_getReg (s : State) (f : BitVec 4) (j : Reg) :
    (s.setFlags f).getReg j = s.getReg j := rfl
@[simp] theorem State.setFlags_memRead (s : State) (f : BitVec 4) (x : Word) :
    (s.setFlags f).memRead x = s.memRead x := rfl
@[simp] theorem State.setFlags_portValue (s : State) (f : BitVec 4) (q : Port) :
    (s.setFlags f).portValue q = s.portValue q := rfl

/-! `State.latchIr0` -/

@[simp] theorem State.latchIr0_regs (s : State) (w : Word) : (s.latchIr0 w).regs = s.regs := rfl
@[simp] theorem State.latchIr0_pc (s : State) (w : Word) : (s.latchIr0 w).pc = s.pc := rfl
@[simp] theorem State.latchIr0_sp (s : State) (w : Word) : (s.latchIr0 w).sp = s.sp := rfl
@[simp] theorem State.latchIr0_flags (s : State) (w : Word) : (s.latchIr0 w).flags = s.flags := rfl
@[simp] theorem State.latchIr0_ir0 (s : State) (w : Word) : (s.latchIr0 w).ir0 = w := rfl
@[simp] theorem State.latchIr0_ir1 (s : State) (w : Word) : (s.latchIr0 w).ir1 = s.ir1 := rfl
@[simp] theorem State.latchIr0_ramaddrLatch (s : State) (w : Word) : (s.latchIr0 w).ramaddrLatch = s.ramaddrLatch := rfl
@[simp] theorem State.latchIr0_phases (s : State) (w : Word) : (s.latchIr0 w).phases = s.phases := rfl
@[simp] theorem State.latchIr0_wl (s : State) (w : Word) : (s.latchIr0 w).wl = s.wl := rfl
@[simp] theorem State.latchIr0_clk (s : State) (w : Word) : (s.latchIr0 w).clk = s.clk := rfl
@[simp] theorem State.latchIr0_ramAddr (s : State) (w : Word) : (s.latchIr0 w).ramAddr = s.ramAddr := rfl
@[simp] theorem State.latchIr0_ramOut (s : State) (w : Word) : (s.latchIr0 w).ramOut = s.ramOut := rfl
@[simp] theorem State.latchIr0_mem (s : State) (w : Word) : (s.latchIr0 w).mem = s.mem := rfl
@[simp] theorem State.latchIr0_inPins (s : State) (w : Word) : (s.latchIr0 w).inPins = s.inPins := rfl
@[simp] theorem State.latchIr0_inDraws (s : State) (w : Word) : (s.latchIr0 w).inDraws = s.inDraws := rfl
@[simp] theorem State.latchIr0_events (s : State) (w : Word) : (s.latchIr0 w).events = s.events := rfl
@[simp] theorem State.latchIr0_getReg (s : State) (w : Word) (j : Reg) :
    (s.latchIr0 w).getReg j = s.getReg j := rfl
@[simp] theorem State.latchIr0_memRead (s : State) (w : Word) (x : Word) :
    (s.latchIr0 w).memRead x = s.memRead x := rfl
@[simp] theorem State.latchIr0_portValue (s : State) (w : Word) (q : Port) :
    (s.latchIr0 w).portValue q = s.portValue q := rfl

/-! `State.latchIr1` -/

@[simp] theorem State.latchIr1_regs (s : State) (w : Word) : (s.latchIr1 w).regs = s.regs := rfl
@[simp] theorem State.latchIr1_pc (s : State) (w : Word) : (s.latchIr1 w).pc = s.pc := rfl
@[simp] theorem State.latchIr1_sp (s : State) (w : Word) : (s.latchIr1 w).sp = s.sp := rfl
@[simp] theorem State.latchIr1_flags (s : State) (w : Word) : (s.latchIr1 w).flags = s.flags := rfl
@[simp] theorem State.latchIr1_ir0 (s : State) (w : Word) : (s.latchIr1 w).ir0 = s.ir0 := rfl
@[simp] theorem State.latchIr1_ir1 (s : State) (w : Word) : (s.latchIr1 w).ir1 = w := rfl
@[simp] theorem State.latchIr1_ramaddrLatch (s : State) (w : Word) : (s.latchIr1 w).ramaddrLatch = s.ramaddrLatch := rfl
@[simp] theorem State.latchIr1_phases (s : State) (w : Word) : (s.latchIr1 w).phases = s.phases := rfl
@[simp] theorem State.latchIr1_wl (s : State) (w : Word) : (s.latchIr1 w).wl = s.wl := rfl
@[simp] theorem State.latchIr1_clk (s : State) (w : Word) : (s.latchIr1 w).clk = s.clk := rfl
@[simp] theorem State.latchIr1_ramAddr (s : State) (w : Word) : (s.latchIr1 w).ramAddr = s.ramAddr := rfl
@[simp] theorem State.latchIr1_ramOut (s : State) (w : Word) : (s.latchIr1 w).ramOut = s.ramOut := rfl
@[simp] theorem State.latchIr1_mem (s : State) (w : Word) : (s.latchIr1 w).mem = s.mem := rfl
@[simp] theorem State.latchIr1_inPins (s : State) (w : Word) : (s.latchIr1 w).inPins = s.inPins := rfl
@[simp] theorem State.latchIr1_inDraws (s : State) (w : Word) : (s.latchIr1 w).inDraws = s.inDraws := rfl
@[simp] theorem State.latchIr1_events (s : State) (w : Word) : (s.latchIr1 w).events = s.events := rfl
@[simp] theorem State.latchIr1_getReg (s : State) (w : Word) (j : Reg) :
    (s.latchIr1 w).getReg j = s.getReg j := rfl
@[simp] theorem State.latchIr1_memRead (s : State) (w : Word) (x : Word) :
    (s.latchIr1 w).memRead x = s.memRead x := rfl
@[simp] theorem State.latchIr1_portValue (s : State) (w : Word) (q : Port) :
    (s.latchIr1 w).portValue q = s.portValue q := rfl

/-! `State.latchRamaddr` -/

@[simp] theorem State.latchRamaddr_regs (s : State) : (s.latchRamaddr).regs = s.regs := rfl
@[simp] theorem State.latchRamaddr_pc (s : State) : (s.latchRamaddr).pc = s.pc := rfl
@[simp] theorem State.latchRamaddr_sp (s : State) : (s.latchRamaddr).sp = s.sp := rfl
@[simp] theorem State.latchRamaddr_flags (s : State) : (s.latchRamaddr).flags = s.flags := rfl
@[simp] theorem State.latchRamaddr_ir0 (s : State) : (s.latchRamaddr).ir0 = s.ir0 := rfl
@[simp] theorem State.latchRamaddr_ir1 (s : State) : (s.latchRamaddr).ir1 = s.ir1 := rfl
@[simp] theorem State.latchRamaddr_ramaddrLatch (s : State) : (s.latchRamaddr).ramaddrLatch = s.ir1 := rfl
@[simp] theorem State.latchRamaddr_phases (s : State) : (s.latchRamaddr).phases = s.phases := rfl
@[simp] theorem State.latchRamaddr_wl (s : State) : (s.latchRamaddr).wl = s.wl := rfl
@[simp] theorem State.latchRamaddr_clk (s : State) : (s.latchRamaddr).clk = s.clk := rfl
@[simp] theorem State.latchRamaddr_ramAddr (s : State) : (s.latchRamaddr).ramAddr = s.ramAddr := rfl
@[simp] theorem State.latchRamaddr_ramOut (s : State) : (s.latchRamaddr).ramOut = s.ramOut := rfl
@[simp] theorem State.latchRamaddr_mem (s : State) : (s.latchRamaddr).mem = s.mem := rfl
@[simp] theorem State.latchRamaddr_inPins (s : State) : (s.latchRamaddr).inPins = s.inPins := rfl
@[simp] theorem State.latchRamaddr_inDraws (s : State) : (s.latchRamaddr).inDraws = s.inDraws := rfl
@[simp] theorem State.latchRamaddr_events (s : State) : (s.latchRamaddr).events = s.events := rfl
@[simp] theorem State.latchRamaddr_getReg (s : State) (j : Reg) :
    (s.latchRamaddr).getReg j = s.getReg j := rfl
@[simp] theorem State.latchRamaddr_memRead (s : State) (x : Word) :
    (s.latchRamaddr).memRead x = s.memRead x := rfl
@[simp] theorem State.latchRamaddr_portValue (s : State) (q : Port) :
    (s.latchRamaddr).portValue q = s.portValue q := rfl

/-! `State.readAhead` -/

@[simp] theorem State.readAhead_regs (s : State) (a : Word) : (s.readAhead a).regs = s.regs := rfl
@[simp] theorem State.readAhead_pc (s : State) (a : Word) : (s.readAhead a).pc = s.pc := rfl
@[simp] theorem State.readAhead_sp (s : State) (a : Word) : (s.readAhead a).sp = s.sp := rfl
@[simp] theorem State.readAhead_flags (s : State) (a : Word) : (s.readAhead a).flags = s.flags := rfl
@[simp] theorem State.readAhead_ir0 (s : State) (a : Word) : (s.readAhead a).ir0 = s.ir0 := rfl
@[simp] theorem State.readAhead_ir1 (s : State) (a : Word) : (s.readAhead a).ir1 = s.ir1 := rfl
@[simp] theorem State.readAhead_ramaddrLatch (s : State) (a : Word) : (s.readAhead a).ramaddrLatch = s.ramaddrLatch := rfl
@[simp] theorem State.readAhead_phases (s : State) (a : Word) : (s.readAhead a).phases = s.phases := rfl
@[simp] theorem State.readAhead_wl (s : State) (a : Word) : (s.readAhead a).wl = s.wl := rfl
@[simp] theorem State.readAhead_clk (s : State) (a : Word) : (s.readAhead a).clk = s.clk := rfl
@[simp] theorem State.readAhead_ramAddr (s : State) (a : Word) : (s.readAhead a).ramAddr = a := rfl
@[simp] theorem State.readAhead_ramOut (s : State) (a : Word) : (s.readAhead a).ramOut = s.memRead a := rfl
@[simp] theorem State.readAhead_mem (s : State) (a : Word) : (s.readAhead a).mem = s.mem := rfl
@[simp] theorem State.readAhead_inPins (s : State) (a : Word) : (s.readAhead a).inPins = s.inPins := rfl
@[simp] theorem State.readAhead_inDraws (s : State) (a : Word) : (s.readAhead a).inDraws = s.inDraws := rfl
@[simp] theorem State.readAhead_events (s : State) (a : Word) : (s.readAhead a).events = s.events := rfl
@[simp] theorem State.readAhead_getReg (s : State) (a : Word) (j : Reg) :
    (s.readAhead a).getReg j = s.getReg j := rfl
@[simp] theorem State.readAhead_memRead (s : State) (a : Word) (x : Word) :
    (s.readAhead a).memRead x = s.memRead x := rfl
@[simp] theorem State.readAhead_portValue (s : State) (a : Word) (q : Port) :
    (s.readAhead a).portValue q = s.portValue q := rfl

/-! `State.emit` -/

@[simp] theorem State.emit_regs (s : State) (es : List Event) : (s.emit es).regs = s.regs := rfl
@[simp] theorem State.emit_pc (s : State) (es : List Event) : (s.emit es).pc = s.pc := rfl
@[simp] theorem State.emit_sp (s : State) (es : List Event) : (s.emit es).sp = s.sp := rfl
@[simp] theorem State.emit_flags (s : State) (es : List Event) : (s.emit es).flags = s.flags := rfl
@[simp] theorem State.emit_ir0 (s : State) (es : List Event) : (s.emit es).ir0 = s.ir0 := rfl
@[simp] theorem State.emit_ir1 (s : State) (es : List Event) : (s.emit es).ir1 = s.ir1 := rfl
@[simp] theorem State.emit_ramaddrLatch (s : State) (es : List Event) : (s.emit es).ramaddrLatch = s.ramaddrLatch := rfl
@[simp] theorem State.emit_phases (s : State) (es : List Event) : (s.emit es).phases = s.phases := rfl
@[simp] theorem State.emit_wl (s : State) (es : List Event) : (s.emit es).wl = s.wl := rfl
@[simp] theorem State.emit_clk (s : State) (es : List Event) : (s.emit es).clk = s.clk := rfl
@[simp] theorem State.emit_ramAddr (s : State) (es : List Event) : (s.emit es).ramAddr = s.ramAddr := rfl
@[simp] theorem State.emit_ramOut (s : State) (es : List Event) : (s.emit es).ramOut = s.ramOut := rfl
@[simp] theorem State.emit_mem (s : State) (es : List Event) : (s.emit es).mem = s.mem := rfl
@[simp] theorem State.emit_inPins (s : State) (es : List Event) : (s.emit es).inPins = s.inPins := rfl
@[simp] theorem State.emit_inDraws (s : State) (es : List Event) : (s.emit es).inDraws = s.inDraws := rfl
@[simp] theorem State.emit_events (s : State) (es : List Event) : (s.emit es).events = s.events ++ es := rfl
@[simp] theorem State.emit_getReg (s : State) (es : List Event) (j : Reg) :
    (s.emit es).getReg j = s.getReg j := rfl
@[simp] theorem State.emit_memRead (s : State) (es : List Event) (x : Word) :
    (s.emit es).memRead x = s.memRead x := rfl
@[simp] theorem State.emit_portValue (s : State) (es : List Event) (q : Port) :
    (s.emit es).portValue q = s.portValue q := rfl

/-! `State.setWord` -/

@[simp] theorem State.setWord_regs (s : State) (a v : Word) : (s.setWord a v).regs = s.regs := rfl
@[simp] theorem State.setWord_pc (s : State) (a v : Word) : (s.setWord a v).pc = s.pc := rfl
@[simp] theorem State.setWord_sp (s : State) (a v : Word) : (s.setWord a v).sp = s.sp := rfl
@[simp] theorem State.setWord_flags (s : State) (a v : Word) : (s.setWord a v).flags = s.flags := rfl
@[simp] theorem State.setWord_ir0 (s : State) (a v : Word) : (s.setWord a v).ir0 = s.ir0 := rfl
@[simp] theorem State.setWord_ir1 (s : State) (a v : Word) : (s.setWord a v).ir1 = s.ir1 := rfl
@[simp] theorem State.setWord_ramaddrLatch (s : State) (a v : Word) : (s.setWord a v).ramaddrLatch = s.ramaddrLatch := rfl
@[simp] theorem State.setWord_phases (s : State) (a v : Word) : (s.setWord a v).phases = s.phases := rfl
@[simp] theorem State.setWord_wl (s : State) (a v : Word) : (s.setWord a v).wl = s.wl := rfl
@[simp] theorem State.setWord_clk (s : State) (a v : Word) : (s.setWord a v).clk = s.clk := rfl
@[simp] theorem State.setWord_ramAddr (s : State) (a v : Word) : (s.setWord a v).ramAddr = s.ramAddr := rfl
@[simp] theorem State.setWord_ramOut (s : State) (a v : Word) : (s.setWord a v).ramOut = s.ramOut := rfl
@[simp] theorem State.setWord_mem (s : State) (a v : Word) : (s.setWord a v).mem = s.mem.write a.toNat v := rfl
@[simp] theorem State.setWord_inPins (s : State) (a v : Word) : (s.setWord a v).inPins = s.inPins := rfl
@[simp] theorem State.setWord_inDraws (s : State) (a v : Word) : (s.setWord a v).inDraws = s.inDraws := rfl
@[simp] theorem State.setWord_events (s : State) (a v : Word) : (s.setWord a v).events = s.events := rfl
@[simp] theorem State.setWord_getReg (s : State) (a v : Word) (j : Reg) :
    (s.setWord a v).getReg j = s.getReg j := rfl
@[simp] theorem State.setWord_portValue (s : State) (a v : Word) (q : Port) :
    (s.setWord a v).portValue q = s.portValue q := rfl

/-! `State.memWrite` -/

@[simp] theorem State.memWrite_regs (s : State) (a v : Word) : (s.memWrite a v).regs = s.regs := rfl
@[simp] theorem State.memWrite_pc (s : State) (a v : Word) : (s.memWrite a v).pc = s.pc := rfl
@[simp] theorem State.memWrite_sp (s : State) (a v : Word) : (s.memWrite a v).sp = s.sp := rfl
@[simp] theorem State.memWrite_flags (s : State) (a v : Word) : (s.memWrite a v).flags = s.flags := rfl
@[simp] theorem State.memWrite_ir0 (s : State) (a v : Word) : (s.memWrite a v).ir0 = s.ir0 := rfl
@[simp] theorem State.memWrite_ir1 (s : State) (a v : Word) : (s.memWrite a v).ir1 = s.ir1 := rfl
@[simp] theorem State.memWrite_ramaddrLatch (s : State) (a v : Word) : (s.memWrite a v).ramaddrLatch = s.ramaddrLatch := rfl
@[simp] theorem State.memWrite_phases (s : State) (a v : Word) : (s.memWrite a v).phases = s.phases := rfl
@[simp] theorem State.memWrite_wl (s : State) (a v : Word) : (s.memWrite a v).wl = s.wl := rfl
@[simp] theorem State.memWrite_clk (s : State) (a v : Word) : (s.memWrite a v).clk = s.clk := rfl
@[simp] theorem State.memWrite_ramAddr (s : State) (a v : Word) : (s.memWrite a v).ramAddr = s.ramAddr := rfl
@[simp] theorem State.memWrite_ramOut (s : State) (a v : Word) : (s.memWrite a v).ramOut = s.ramOut := rfl
@[simp] theorem State.memWrite_mem (s : State) (a v : Word) : (s.memWrite a v).mem = s.mem.write a.toNat v := rfl
@[simp] theorem State.memWrite_inPins (s : State) (a v : Word) : (s.memWrite a v).inPins = s.inPins := rfl
@[simp] theorem State.memWrite_inDraws (s : State) (a v : Word) : (s.memWrite a v).inDraws = s.inDraws := rfl
@[simp] theorem State.memWrite_events (s : State) (a v : Word) : (s.memWrite a v).events = s.events ++ pixelEvents a v := rfl
@[simp] theorem State.memWrite_getReg (s : State) (a v : Word) (j : Reg) :
    (s.memWrite a v).getReg j = s.getReg j := rfl
@[simp] theorem State.memWrite_portValue (s : State) (a v : Word) (q : Port) :
    (s.memWrite a v).portValue q = s.portValue q := rfl

/-! `State.push` -/

@[simp] theorem State.push_regs (s : State) (v : Word) : (s.push v).regs = s.regs := rfl
@[simp] theorem State.push_pc (s : State) (v : Word) : (s.push v).pc = s.pc := rfl
@[simp] theorem State.push_sp (s : State) (v : Word) : (s.push v).sp = s.sp - 1 := rfl
@[simp] theorem State.push_flags (s : State) (v : Word) : (s.push v).flags = s.flags := rfl
@[simp] theorem State.push_ir0 (s : State) (v : Word) : (s.push v).ir0 = s.ir0 := rfl
@[simp] theorem State.push_ir1 (s : State) (v : Word) : (s.push v).ir1 = s.ir1 := rfl
@[simp] theorem State.push_ramaddrLatch (s : State) (v : Word) : (s.push v).ramaddrLatch = s.ramaddrLatch := rfl
@[simp] theorem State.push_phases (s : State) (v : Word) : (s.push v).phases = s.phases := rfl
@[simp] theorem State.push_wl (s : State) (v : Word) : (s.push v).wl = s.wl := rfl
@[simp] theorem State.push_clk (s : State) (v : Word) : (s.push v).clk = s.clk := rfl
@[simp] theorem State.push_ramAddr (s : State) (v : Word) : (s.push v).ramAddr = s.ramAddr := rfl
@[simp] theorem State.push_ramOut (s : State) (v : Word) : (s.push v).ramOut = s.ramOut := rfl
@[simp] theorem State.push_mem (s : State) (v : Word) : (s.push v).mem = s.mem.write s.sp.toNat v := rfl
@[simp] theorem State.push_inPins (s : State) (v : Word) : (s.push v).inPins = s.inPins := rfl
@[simp] theorem State.push_inDraws (s : State) (v : Word) : (s.push v).inDraws = s.inDraws := rfl
@[simp] theorem State.push_events (s : State) (v : Word) : (s.push v).events = s.events ++ pixelEvents s.sp v := rfl
@[simp] theorem State.push_getReg (s : State) (v : Word) (j : Reg) :
    (s.push v).getReg j = s.getReg j := rfl
@[simp] theorem State.push_portValue (s : State) (v : Word) (q : Port) :
    (s.push v).portValue q = s.portValue q := rfl

/-! `State.drop` -/

@[simp] theorem State.drop_regs (s : State) : (s.drop).regs = s.regs := rfl
@[simp] theorem State.drop_pc (s : State) : (s.drop).pc = s.pc := rfl
@[simp] theorem State.drop_sp (s : State) : (s.drop).sp = s.sp + 1 := rfl
@[simp] theorem State.drop_flags (s : State) : (s.drop).flags = s.flags := rfl
@[simp] theorem State.drop_ir0 (s : State) : (s.drop).ir0 = s.ir0 := rfl
@[simp] theorem State.drop_ir1 (s : State) : (s.drop).ir1 = s.ir1 := rfl
@[simp] theorem State.drop_ramaddrLatch (s : State) : (s.drop).ramaddrLatch = s.ramaddrLatch := rfl
@[simp] theorem State.drop_phases (s : State) : (s.drop).phases = s.phases := rfl
@[simp] theorem State.drop_wl (s : State) : (s.drop).wl = s.wl := rfl
@[simp] theorem State.drop_clk (s : State) : (s.drop).clk = s.clk := rfl
@[simp] theorem State.drop_ramAddr (s : State) : (s.drop).ramAddr = s.ramAddr := rfl
@[simp] theorem State.drop_ramOut (s : State) : (s.drop).ramOut = s.ramOut := rfl
@[simp] theorem State.drop_mem (s : State) : (s.drop).mem = s.mem := rfl
@[simp] theorem State.drop_inPins (s : State) : (s.drop).inPins = s.inPins := rfl
@[simp] theorem State.drop_inDraws (s : State) : (s.drop).inDraws = s.inDraws := rfl
@[simp] theorem State.drop_events (s : State) : (s.drop).events = s.events := rfl
@[simp] theorem State.drop_getReg (s : State) (j : Reg) :
    (s.drop).getReg j = s.getReg j := rfl
@[simp] theorem State.drop_memRead (s : State) (x : Word) :
    (s.drop).memRead x = s.memRead x := rfl
@[simp] theorem State.drop_portValue (s : State) (q : Port) :
    (s.drop).portValue q = s.portValue q := rfl

/-! `State.output` -/

@[simp] theorem State.output_regs (s : State) (p : Port) (v : Word) : (s.output p v).regs = s.regs := rfl
@[simp] theorem State.output_pc (s : State) (p : Port) (v : Word) : (s.output p v).pc = s.pc := rfl
@[simp] theorem State.output_sp (s : State) (p : Port) (v : Word) : (s.output p v).sp = s.sp := rfl
@[simp] theorem State.output_flags (s : State) (p : Port) (v : Word) : (s.output p v).flags = s.flags := rfl
@[simp] theorem State.output_ir0 (s : State) (p : Port) (v : Word) : (s.output p v).ir0 = s.ir0 := rfl
@[simp] theorem State.output_ir1 (s : State) (p : Port) (v : Word) : (s.output p v).ir1 = s.ir1 := rfl
@[simp] theorem State.output_ramaddrLatch (s : State) (p : Port) (v : Word) : (s.output p v).ramaddrLatch = s.ramaddrLatch := rfl
@[simp] theorem State.output_phases (s : State) (p : Port) (v : Word) : (s.output p v).phases = s.phases := rfl
@[simp] theorem State.output_wl (s : State) (p : Port) (v : Word) : (s.output p v).wl = s.wl := rfl
@[simp] theorem State.output_clk (s : State) (p : Port) (v : Word) : (s.output p v).clk = s.clk := rfl
@[simp] theorem State.output_ramAddr (s : State) (p : Port) (v : Word) : (s.output p v).ramAddr = s.ramAddr := rfl
@[simp] theorem State.output_ramOut (s : State) (p : Port) (v : Word) : (s.output p v).ramOut = s.ramOut := rfl
@[simp] theorem State.output_mem (s : State) (p : Port) (v : Word) : (s.output p v).mem = s.mem := rfl
@[simp] theorem State.output_inPins (s : State) (p : Port) (v : Word) : (s.output p v).inPins = s.inPins := rfl
@[simp] theorem State.output_inDraws (s : State) (p : Port) (v : Word) : (s.output p v).inDraws = s.inDraws := rfl
@[simp] theorem State.output_events (s : State) (p : Port) (v : Word) : (s.output p v).events = s.events ++ [.outPort p v] := rfl
@[simp] theorem State.output_getReg (s : State) (p : Port) (v : Word) (j : Reg) :
    (s.output p v).getReg j = s.getReg j := rfl
@[simp] theorem State.output_memRead (s : State) (p : Port) (v : Word) (x : Word) :
    (s.output p v).memRead x = s.memRead x := rfl
@[simp] theorem State.output_portValue (s : State) (p : Port) (v : Word) (q : Port) :
    (s.output p v).portValue q = s.portValue q := rfl

/-! `State.setWl` -/

@[simp] theorem State.setWl_regs (s : State) (b : Bool) : (s.setWl b).regs = s.regs := rfl
@[simp] theorem State.setWl_pc (s : State) (b : Bool) : (s.setWl b).pc = s.pc := rfl
@[simp] theorem State.setWl_sp (s : State) (b : Bool) : (s.setWl b).sp = s.sp := rfl
@[simp] theorem State.setWl_flags (s : State) (b : Bool) : (s.setWl b).flags = s.flags := rfl
@[simp] theorem State.setWl_ir0 (s : State) (b : Bool) : (s.setWl b).ir0 = s.ir0 := rfl
@[simp] theorem State.setWl_ir1 (s : State) (b : Bool) : (s.setWl b).ir1 = s.ir1 := rfl
@[simp] theorem State.setWl_ramaddrLatch (s : State) (b : Bool) : (s.setWl b).ramaddrLatch = s.ramaddrLatch := rfl
@[simp] theorem State.setWl_phases (s : State) (b : Bool) : (s.setWl b).phases = s.phases := rfl
@[simp] theorem State.setWl_wl (s : State) (b : Bool) : (s.setWl b).wl = b := rfl
@[simp] theorem State.setWl_clk (s : State) (b : Bool) : (s.setWl b).clk = s.clk := rfl
@[simp] theorem State.setWl_ramAddr (s : State) (b : Bool) : (s.setWl b).ramAddr = s.ramAddr := rfl
@[simp] theorem State.setWl_ramOut (s : State) (b : Bool) : (s.setWl b).ramOut = s.ramOut := rfl
@[simp] theorem State.setWl_mem (s : State) (b : Bool) : (s.setWl b).mem = s.mem := rfl
@[simp] theorem State.setWl_inPins (s : State) (b : Bool) : (s.setWl b).inPins = s.inPins := rfl
@[simp] theorem State.setWl_inDraws (s : State) (b : Bool) : (s.setWl b).inDraws = s.inDraws := rfl
@[simp] theorem State.setWl_events (s : State) (b : Bool) : (s.setWl b).events = s.events := rfl
@[simp] theorem State.setWl_getReg (s : State) (b : Bool) (j : Reg) :
    (s.setWl b).getReg j = s.getReg j := rfl
@[simp] theorem State.setWl_memRead (s : State) (b : Bool) (x : Word) :
    (s.setWl b).memRead x = s.memRead x := rfl
@[simp] theorem State.setWl_portValue (s : State) (b : Bool) (q : Port) :
    (s.setWl b).portValue q = s.portValue q := rfl

/-! `State.setClock` -/

@[simp] theorem State.setClock_regs (s : State) (c : Bool) (n : Phases) : (s.setClock c n).regs = s.regs := rfl
@[simp] theorem State.setClock_pc (s : State) (c : Bool) (n : Phases) : (s.setClock c n).pc = s.pc := rfl
@[simp] theorem State.setClock_sp (s : State) (c : Bool) (n : Phases) : (s.setClock c n).sp = s.sp := rfl
@[simp] theorem State.setClock_flags (s : State) (c : Bool) (n : Phases) : (s.setClock c n).flags = s.flags := rfl
@[simp] theorem State.setClock_ir0 (s : State) (c : Bool) (n : Phases) : (s.setClock c n).ir0 = s.ir0 := rfl
@[simp] theorem State.setClock_ir1 (s : State) (c : Bool) (n : Phases) : (s.setClock c n).ir1 = s.ir1 := rfl
@[simp] theorem State.setClock_ramaddrLatch (s : State) (c : Bool) (n : Phases) : (s.setClock c n).ramaddrLatch = s.ramaddrLatch := rfl
@[simp] theorem State.setClock_phases (s : State) (c : Bool) (n : Phases) : (s.setClock c n).phases = n := rfl
@[simp] theorem State.setClock_wl (s : State) (c : Bool) (n : Phases) : (s.setClock c n).wl = s.wl := rfl
@[simp] theorem State.setClock_clk (s : State) (c : Bool) (n : Phases) : (s.setClock c n).clk = c := rfl
@[simp] theorem State.setClock_ramAddr (s : State) (c : Bool) (n : Phases) : (s.setClock c n).ramAddr = s.ramAddr := rfl
@[simp] theorem State.setClock_ramOut (s : State) (c : Bool) (n : Phases) : (s.setClock c n).ramOut = s.ramOut := rfl
@[simp] theorem State.setClock_mem (s : State) (c : Bool) (n : Phases) : (s.setClock c n).mem = s.mem := rfl
@[simp] theorem State.setClock_inPins (s : State) (c : Bool) (n : Phases) : (s.setClock c n).inPins = s.inPins := rfl
@[simp] theorem State.setClock_inDraws (s : State) (c : Bool) (n : Phases) : (s.setClock c n).inDraws = s.inDraws := rfl
@[simp] theorem State.setClock_events (s : State) (c : Bool) (n : Phases) : (s.setClock c n).events = s.events := rfl
@[simp] theorem State.setClock_getReg (s : State) (c : Bool) (n : Phases) (j : Reg) :
    (s.setClock c n).getReg j = s.getReg j := rfl
@[simp] theorem State.setClock_memRead (s : State) (c : Bool) (n : Phases) (x : Word) :
    (s.setClock c n).memRead x = s.memRead x := rfl
@[simp] theorem State.setClock_portValue (s : State) (c : Bool) (n : Phases) (q : Port) :
    (s.setClock c n).portValue q = s.portValue q := rfl

/-! `State.fetchNext` -/

@[simp] theorem State.fetchNext_regs (s : State) : (s.fetchNext).regs = s.regs := rfl
@[simp] theorem State.fetchNext_pc (s : State) : (s.fetchNext).pc = s.pc := rfl
@[simp] theorem State.fetchNext_sp (s : State) : (s.fetchNext).sp = s.sp := rfl
@[simp] theorem State.fetchNext_flags (s : State) : (s.fetchNext).flags = s.flags := rfl
@[simp] theorem State.fetchNext_ir0 (s : State) : (s.fetchNext).ir0 = s.memRead s.pc := rfl
@[simp] theorem State.fetchNext_ir1 (s : State) : (s.fetchNext).ir1 = s.ir1 := rfl
@[simp] theorem State.fetchNext_ramaddrLatch (s : State) : (s.fetchNext).ramaddrLatch = s.ramaddrLatch := rfl
@[simp] theorem State.fetchNext_phases (s : State) : (s.fetchNext).phases = s.phases := rfl
@[simp] theorem State.fetchNext_wl (s : State) : (s.fetchNext).wl = s.wl := rfl
@[simp] theorem State.fetchNext_clk (s : State) : (s.fetchNext).clk = s.clk := rfl
@[simp] theorem State.fetchNext_ramAddr (s : State) : (s.fetchNext).ramAddr = s.pc := rfl
@[simp] theorem State.fetchNext_ramOut (s : State) : (s.fetchNext).ramOut = s.memRead s.pc := rfl
@[simp] theorem State.fetchNext_mem (s : State) : (s.fetchNext).mem = s.mem := rfl
@[simp] theorem State.fetchNext_inPins (s : State) : (s.fetchNext).inPins = s.inPins := rfl
@[simp] theorem State.fetchNext_inDraws (s : State) : (s.fetchNext).inDraws = s.inDraws := rfl
@[simp] theorem State.fetchNext_events (s : State) : (s.fetchNext).events = s.events := rfl
@[simp] theorem State.fetchNext_getReg (s : State) (j : Reg) :
    (s.fetchNext).getReg j = s.getReg j := rfl
@[simp] theorem State.fetchNext_memRead (s : State) (x : Word) :
    (s.fetchNext).memRead x = s.memRead x := rfl
@[simp] theorem State.fetchNext_portValue (s : State) (q : Port) :
    (s.fetchNext).portValue q = s.portValue q := rfl

/-! `State.finishAt` -/

@[simp] theorem State.finishAt_regs (s : State) (target : Word) : (s.finishAt target).regs = s.regs := rfl
@[simp] theorem State.finishAt_pc (s : State) (target : Word) : (s.finishAt target).pc = target := rfl
@[simp] theorem State.finishAt_sp (s : State) (target : Word) : (s.finishAt target).sp = s.sp := rfl
@[simp] theorem State.finishAt_flags (s : State) (target : Word) : (s.finishAt target).flags = s.flags := rfl
@[simp] theorem State.finishAt_ir0 (s : State) (target : Word) : (s.finishAt target).ir0 = s.memRead target := rfl
@[simp] theorem State.finishAt_ir1 (s : State) (target : Word) : (s.finishAt target).ir1 = s.ir1 := rfl
@[simp] theorem State.finishAt_ramaddrLatch (s : State) (target : Word) : (s.finishAt target).ramaddrLatch = s.ir1 := rfl
@[simp] theorem State.finishAt_phases (s : State) (target : Word) : (s.finishAt target).phases = s.phases := rfl
@[simp] theorem State.finishAt_wl (s : State) (target : Word) : (s.finishAt target).wl = s.wl := rfl
@[simp] theorem State.finishAt_clk (s : State) (target : Word) : (s.finishAt target).clk = s.clk := rfl
@[simp] theorem State.finishAt_ramAddr (s : State) (target : Word) : (s.finishAt target).ramAddr = target := rfl
@[simp] theorem State.finishAt_ramOut (s : State) (target : Word) : (s.finishAt target).ramOut = s.memRead target := rfl
@[simp] theorem State.finishAt_mem (s : State) (target : Word) : (s.finishAt target).mem = s.mem := rfl
@[simp] theorem State.finishAt_inPins (s : State) (target : Word) : (s.finishAt target).inPins = s.inPins := rfl
@[simp] theorem State.finishAt_inDraws (s : State) (target : Word) : (s.finishAt target).inDraws = s.inDraws := rfl
@[simp] theorem State.finishAt_events (s : State) (target : Word) : (s.finishAt target).events = s.events := rfl
@[simp] theorem State.finishAt_getReg (s : State) (target : Word) (j : Reg) :
    (s.finishAt target).getReg j = s.getReg j := rfl
@[simp] theorem State.finishAt_memRead (s : State) (target : Word) (x : Word) :
    (s.finishAt target).memRead x = s.memRead x := rfl
@[simp] theorem State.finishAt_portValue (s : State) (target : Word) (q : Port) :
    (s.finishAt target).portValue q = s.portValue q := rfl

/-! `State.endOneWord` -/

@[simp] theorem State.endOneWord_regs (s : State) : (s.endOneWord).regs = s.regs := rfl
@[simp] theorem State.endOneWord_pc (s : State) : (s.endOneWord).pc = s.pc + 1 := rfl
@[simp] theorem State.endOneWord_sp (s : State) : (s.endOneWord).sp = s.sp := rfl
@[simp] theorem State.endOneWord_flags (s : State) : (s.endOneWord).flags = s.flags := rfl
@[simp] theorem State.endOneWord_ir0 (s : State) : (s.endOneWord).ir0 = s.memRead (s.pc + 1) := rfl
@[simp] theorem State.endOneWord_ir1 (s : State) : (s.endOneWord).ir1 = s.ir1 := rfl
@[simp] theorem State.endOneWord_ramaddrLatch (s : State) : (s.endOneWord).ramaddrLatch = s.ir1 := rfl
@[simp] theorem State.endOneWord_phases (s : State) : (s.endOneWord).phases = s.phases := rfl
@[simp] theorem State.endOneWord_wl (s : State) : (s.endOneWord).wl = s.wl := rfl
@[simp] theorem State.endOneWord_clk (s : State) : (s.endOneWord).clk = s.clk := rfl
@[simp] theorem State.endOneWord_ramAddr (s : State) : (s.endOneWord).ramAddr = s.pc + 1 := rfl
@[simp] theorem State.endOneWord_ramOut (s : State) : (s.endOneWord).ramOut = s.memRead (s.pc + 1) := rfl
@[simp] theorem State.endOneWord_mem (s : State) : (s.endOneWord).mem = s.mem := rfl
@[simp] theorem State.endOneWord_inPins (s : State) : (s.endOneWord).inPins = s.inPins := rfl
@[simp] theorem State.endOneWord_inDraws (s : State) : (s.endOneWord).inDraws = s.inDraws := rfl
@[simp] theorem State.endOneWord_events (s : State) : (s.endOneWord).events = s.events := rfl
@[simp] theorem State.endOneWord_getReg (s : State) (j : Reg) :
    (s.endOneWord).getReg j = s.getReg j := rfl
@[simp] theorem State.endOneWord_memRead (s : State) (x : Word) :
    (s.endOneWord).memRead x = s.memRead x := rfl
@[simp] theorem State.endOneWord_portValue (s : State) (q : Port) :
    (s.endOneWord).portValue q = s.portValue q := rfl

/-! `State.endTwoWords` -/

@[simp] theorem State.endTwoWords_regs (s : State) (ext : Word) : (s.endTwoWords ext).regs = s.regs := rfl
@[simp] theorem State.endTwoWords_pc (s : State) (ext : Word) : (s.endTwoWords ext).pc = s.pc + 2 := rfl
@[simp] theorem State.endTwoWords_sp (s : State) (ext : Word) : (s.endTwoWords ext).sp = s.sp := rfl
@[simp] theorem State.endTwoWords_flags (s : State) (ext : Word) : (s.endTwoWords ext).flags = s.flags := rfl
@[simp] theorem State.endTwoWords_ir0 (s : State) (ext : Word) : (s.endTwoWords ext).ir0 = s.memRead (s.pc + 2) := rfl
@[simp] theorem State.endTwoWords_ir1 (s : State) (ext : Word) : (s.endTwoWords ext).ir1 = ext := rfl
@[simp] theorem State.endTwoWords_ramaddrLatch (s : State) (ext : Word) : (s.endTwoWords ext).ramaddrLatch = ext := rfl
@[simp] theorem State.endTwoWords_phases (s : State) (ext : Word) : (s.endTwoWords ext).phases = s.phases := rfl
@[simp] theorem State.endTwoWords_wl (s : State) (ext : Word) : (s.endTwoWords ext).wl = s.wl := rfl
@[simp] theorem State.endTwoWords_clk (s : State) (ext : Word) : (s.endTwoWords ext).clk = s.clk := rfl
@[simp] theorem State.endTwoWords_ramAddr (s : State) (ext : Word) : (s.endTwoWords ext).ramAddr = s.pc + 2 := rfl
@[simp] theorem State.endTwoWords_ramOut (s : State) (ext : Word) : (s.endTwoWords ext).ramOut = s.memRead (s.pc + 2) := rfl
@[simp] theorem State.endTwoWords_mem (s : State) (ext : Word) : (s.endTwoWords ext).mem = s.mem := rfl
@[simp] theorem State.endTwoWords_inPins (s : State) (ext : Word) : (s.endTwoWords ext).inPins = s.inPins := rfl
@[simp] theorem State.endTwoWords_inDraws (s : State) (ext : Word) : (s.endTwoWords ext).inDraws = s.inDraws := rfl
@[simp] theorem State.endTwoWords_events (s : State) (ext : Word) : (s.endTwoWords ext).events = s.events := rfl
@[simp] theorem State.endTwoWords_getReg (s : State) (ext : Word) (j : Reg) :
    (s.endTwoWords ext).getReg j = s.getReg j := rfl
@[simp] theorem State.endTwoWords_memRead (s : State) (ext : Word) (x : Word) :
    (s.endTwoWords ext).memRead x = s.memRead x := rfl
@[simp] theorem State.endTwoWords_portValue (s : State) (ext : Word) (q : Port) :
    (s.endTwoWords ext).portValue q = s.portValue q := rfl

/-! `State.endJump` -/

@[simp] theorem State.endJump_regs (s : State) (ext target : Word) : (s.endJump ext target).regs = s.regs := rfl
@[simp] theorem State.endJump_pc (s : State) (ext target : Word) : (s.endJump ext target).pc = target := rfl
@[simp] theorem State.endJump_sp (s : State) (ext target : Word) : (s.endJump ext target).sp = s.sp := rfl
@[simp] theorem State.endJump_flags (s : State) (ext target : Word) : (s.endJump ext target).flags = s.flags := rfl
@[simp] theorem State.endJump_ir0 (s : State) (ext target : Word) : (s.endJump ext target).ir0 = s.memRead target := rfl
@[simp] theorem State.endJump_ir1 (s : State) (ext target : Word) : (s.endJump ext target).ir1 = ext := rfl
@[simp] theorem State.endJump_ramaddrLatch (s : State) (ext target : Word) : (s.endJump ext target).ramaddrLatch = ext := rfl
@[simp] theorem State.endJump_phases (s : State) (ext target : Word) : (s.endJump ext target).phases = s.phases := rfl
@[simp] theorem State.endJump_wl (s : State) (ext target : Word) : (s.endJump ext target).wl = s.wl := rfl
@[simp] theorem State.endJump_clk (s : State) (ext target : Word) : (s.endJump ext target).clk = s.clk := rfl
@[simp] theorem State.endJump_ramAddr (s : State) (ext target : Word) : (s.endJump ext target).ramAddr = target := rfl
@[simp] theorem State.endJump_ramOut (s : State) (ext target : Word) : (s.endJump ext target).ramOut = s.memRead target := rfl
@[simp] theorem State.endJump_mem (s : State) (ext target : Word) : (s.endJump ext target).mem = s.mem := rfl
@[simp] theorem State.endJump_inPins (s : State) (ext target : Word) : (s.endJump ext target).inPins = s.inPins := rfl
@[simp] theorem State.endJump_inDraws (s : State) (ext target : Word) : (s.endJump ext target).inDraws = s.inDraws := rfl
@[simp] theorem State.endJump_events (s : State) (ext target : Word) : (s.endJump ext target).events = s.events := rfl
@[simp] theorem State.endJump_getReg (s : State) (ext target : Word) (j : Reg) :
    (s.endJump ext target).getReg j = s.getReg j := rfl
@[simp] theorem State.endJump_memRead (s : State) (ext target : Word) (x : Word) :
    (s.endJump ext target).memRead x = s.memRead x := rfl
@[simp] theorem State.endJump_portValue (s : State) (ext target : Word) (q : Port) :
    (s.endJump ext target).portValue q = s.portValue q := rfl

/-! Registers -/

@[simp] theorem State.getReg_setReg_self (s : State) (i : Reg) (v : Word) : (s.setReg i v).getReg i = v := by
  simp [State.getReg, State.setReg]

theorem State.getReg_setReg_ne (s : State) {i j : Reg} (v : Word) (h : j ≠ i) :
    (s.setReg i v).getReg j = s.getReg j := by
  simp [State.getReg, State.setReg, Fin.val_inj, h.symm]

/-- A register read after a register write, both cases at once. -/
theorem State.getReg_setReg (s : State) (i j : Reg) (v : Word) :
    (s.setReg i v).getReg j = if j = i then v else s.getReg j := by
  by_cases h : j = i
  · subst h; simp
  · simp [h, State.getReg_setReg_ne s v h]

end Sys2Proof.Machine
end

