-- ==== Sys2Proof/Laws/Memory.lean ====
section
/-! SUPPORT. The laws of the memory array: a read after a write, and that every memory operation keeps the
canonical form. -/

namespace Sys2Proof.Machine

@[simp] theorem Memory.read_nil (a : Nat) : Memory.read [] a = unwrittenWord := rfl

@[simp] theorem Memory.wf_nil : Memory.wf [] = true := rfl

/-- A write leaves every other address alone, whatever form the memory is in. -/
theorem Memory.read_write_ne (m : Memory) {a b : Nat} (v : Word) (h : b ≠ a) :
    (m.write a v).read b = m.read b := by
  induction m with
  | nil => by_cases hv : v = unwrittenWord <;> simp [Memory.write, Memory.read, hv, h.symm]
  | cons c t ih =>
    obtain ⟨k, w⟩ := c
    simp only [Memory.write]
    split_ifs with h1 h2 h2 h3
    · rfl
    · simp [Memory.read, h.symm]
    · simp [Memory.read, show k ≠ b from h2 ▸ h.symm]
    · simp [Memory.read, show k ≠ b from h2 ▸ h.symm, h.symm]
    · simp [Memory.read, ih]

/-- A canonical memory from `lo` up lists no address below `lo`. -/
theorem Memory.read_below {lo : Nat} {m : Memory} (hm : Memory.wfFrom lo m = true) {a : Nat} (h : a < lo) :
    m.read a = unwrittenWord := by
  induction m generalizing lo with
  | nil => rfl
  | cons c t ih =>
    obtain ⟨k, w⟩ := c
    simp only [Memory.wfFrom, Bool.and_eq_true, decide_eq_true_eq] at hm
    have hk : k ≠ a := by omega
    simp [Memory.read, hk, ih hm.2 (by omega)]

/-- A read of the address just written gives the word written. -/
theorem Memory.read_write_self_from {lo : Nat} {m : Memory} (hm : Memory.wfFrom lo m = true) (a : Nat) (v : Word) :
    (m.write a v).read a = v := by
  induction m generalizing lo with
  | nil => by_cases hv : v = unwrittenWord <;> simp [Memory.write, Memory.read, hv]
  | cons c t ih =>
    obtain ⟨k, w⟩ := c
    have hm' := hm
    simp only [Memory.wfFrom, Bool.and_eq_true, decide_eq_true_eq] at hm'
    simp only [Memory.write]
    split_ifs with h1 h2 h2 h3
    · have hka : k ≠ a := by omega
      simp [Memory.read, hka, h2, Memory.read_below hm'.2 (show a < k + 1 by omega)]
    · simp [Memory.read]
    · rw [h3, Memory.read_below hm'.2 (by omega)]
    · simp [Memory.read]
    · have hka : k ≠ a := fun e => h2 e.symm
      simp [Memory.read, hka, ih hm'.2]

/-- A canonical memory from a higher address up is one from a lower address up. -/
theorem Memory.wfFrom_mono {lo hi : Nat} {m : Memory} (hm : Memory.wfFrom hi m = true) (h : lo ≤ hi) :
    Memory.wfFrom lo m = true := by
  cases m with
  | nil => rfl
  | cons c t =>
    obtain ⟨k, w⟩ := c
    simp only [Memory.wfFrom, Bool.and_eq_true, decide_eq_true_eq] at hm ⊢
    exact ⟨⟨⟨by omega, hm.1.1.2⟩, hm.1.2⟩, hm.2⟩

/-- Writing inside the address space keeps the canonical form. -/
theorem Memory.wfFrom_write {lo : Nat} {m : Memory} (hm : Memory.wfFrom lo m = true) {a : Nat} (v : Word)
    (hlo : lo ≤ a) (ha : a < addressSpace) : Memory.wfFrom lo (m.write a v) = true := by
  induction m generalizing lo with
  | nil => by_cases hv : v = unwrittenWord <;> simp [Memory.write, Memory.wfFrom, hv, hlo, ha]
  | cons c t ih =>
    obtain ⟨k, w⟩ := c
    simp only [Memory.wfFrom, Bool.and_eq_true, decide_eq_true_eq, bne_iff_ne, ne_eq] at hm
    obtain ⟨⟨⟨h1, h2⟩, h3⟩, h4⟩ := hm
    simp only [Memory.write]
    split_ifs with c1 c2 c2 c3
    · simp [Memory.wfFrom, h1, h2, h3, h4]
    · simp [Memory.wfFrom, hlo, ha, c2, h2, h3, h4]; omega
    · subst c2
      exact Memory.wfFrom_mono h4 (by omega)
    · subst c2
      simp [Memory.wfFrom, h1, h2, c3, h4]
    · simp [Memory.wfFrom, h1, h2, h3, ih h4 (by omega)]

/-- A read after a write to the same address of a canonical memory. -/
theorem Memory.read_write_self {m : Memory} (hm : m.wf = true) (a : Nat) (v : Word) : (m.write a v).read a = v :=
  Memory.read_write_self_from hm a v

/-- `Memory.write` keeps the canonical form at every word address. -/
theorem Memory.wf_write {m : Memory} (hm : m.wf = true) (a v : Word) : (m.write a.toNat v).wf = true :=
  Memory.wfFrom_write hm v (Nat.zero_le _) a.isLt

/-- `Memory.ofImage` builds a canonical memory from an image that fits. -/
theorem Memory.wfFrom_ofImage (a : Nat) (ts : List ImageToken) (h : a + ts.length ≤ addressSpace) :
    Memory.wfFrom a (Memory.ofImage a ts) = true := by
  induction ts generalizing a with
  | nil => rfl
  | cons c t ih =>
    have ht := ih (a + 1) (by simp only [List.length_cons] at h; omega)
    have ha : a < addressSpace := by simp only [List.length_cons] at h; omega
    cases c with
    | nonNumeric => exact Memory.wfFrom_mono ht (by omega)
    | word v =>
      simp only [Memory.ofImage]
      split_ifs with hv
      · exact Memory.wfFrom_mono ht (by omega)
      · simp [Memory.wfFrom, ha, hv, ht]

/-- The state-level forms: a word just written reads back. -/
theorem State.memRead_setWord_self {s : State} (hm : s.mem.wf = true) (a v : Word) :
    (s.setWord a v).memRead a = v := Memory.read_write_self hm a.toNat v

/-- Every other word is unchanged. -/
theorem State.memRead_setWord_ne (s : State) {a b : Word} (v : Word) (h : b ≠ a) :
    (s.setWord a v).memRead b = s.memRead b :=
  Memory.read_write_ne s.mem v (fun e => h (BitVec.eq_of_toNat_eq e))

/-- A word the CORE just wrote reads back. -/
theorem State.memRead_memWrite_self {s : State} (hm : s.mem.wf = true) (a v : Word) :
    (s.memWrite a v).memRead a = v := Memory.read_write_self hm a.toNat v

/-- Every other word is unchanged. -/
theorem State.memRead_memWrite_ne (s : State) {a b : Word} (v : Word) (h : b ≠ a) :
    (s.memWrite a v).memRead b = s.memRead b :=
  Memory.read_write_ne s.mem v (fun e => h (BitVec.eq_of_toNat_eq e))

/-- A pushed word reads back from the slot SP named. -/
theorem State.memRead_push_self {s : State} (hm : s.mem.wf = true) (v : Word) : (s.push v).memRead s.sp = v :=
  Memory.read_write_self hm s.sp.toNat v

/-- A push leaves every other word alone. -/
theorem State.memRead_push_ne (s : State) {b : Word} (v : Word) (h : b ≠ s.sp) :
    (s.push v).memRead b = s.memRead b :=
  Memory.read_write_ne s.mem v (fun e => h (BitVec.eq_of_toNat_eq e))

end Sys2Proof.Machine
end

