-- ==== Sys2Proof/Laws/Sequencer.lean ====
section
/-! SUPPORT. What one part of a tick can change, and what one tick leaves in each field: the lemmas that a
proof about ticks cites instead of unfolding `tick`. -/

namespace Sys2Proof.Machine

/-! `State.afterSample` changes inDraws only. -/

@[simp] theorem State.afterSample_regs (s : State) (p : Port) : (s.afterSample p).regs = s.regs := by unfold State.afterSample; split <;> rfl
@[simp] theorem State.afterSample_pc (s : State) (p : Port) : (s.afterSample p).pc = s.pc := by unfold State.afterSample; split <;> rfl
@[simp] theorem State.afterSample_sp (s : State) (p : Port) : (s.afterSample p).sp = s.sp := by unfold State.afterSample; split <;> rfl
@[simp] theorem State.afterSample_flags (s : State) (p : Port) : (s.afterSample p).flags = s.flags := by unfold State.afterSample; split <;> rfl
@[simp] theorem State.afterSample_ir0 (s : State) (p : Port) : (s.afterSample p).ir0 = s.ir0 := by unfold State.afterSample; split <;> rfl
@[simp] theorem State.afterSample_ir1 (s : State) (p : Port) : (s.afterSample p).ir1 = s.ir1 := by unfold State.afterSample; split <;> rfl
@[simp] theorem State.afterSample_ramaddrLatch (s : State) (p : Port) : (s.afterSample p).ramaddrLatch = s.ramaddrLatch := by unfold State.afterSample; split <;> rfl
@[simp] theorem State.afterSample_phases (s : State) (p : Port) : (s.afterSample p).phases = s.phases := by unfold State.afterSample; split <;> rfl
@[simp] theorem State.afterSample_wl (s : State) (p : Port) : (s.afterSample p).wl = s.wl := by unfold State.afterSample; split <;> rfl
@[simp] theorem State.afterSample_clk (s : State) (p : Port) : (s.afterSample p).clk = s.clk := by unfold State.afterSample; split <;> rfl
@[simp] theorem State.afterSample_ramAddr (s : State) (p : Port) : (s.afterSample p).ramAddr = s.ramAddr := by unfold State.afterSample; split <;> rfl
@[simp] theorem State.afterSample_ramOut (s : State) (p : Port) : (s.afterSample p).ramOut = s.ramOut := by unfold State.afterSample; split <;> rfl
@[simp] theorem State.afterSample_mem (s : State) (p : Port) : (s.afterSample p).mem = s.mem := by unfold State.afterSample; split <;> rfl
@[simp] theorem State.afterSample_inPins (s : State) (p : Port) : (s.afterSample p).inPins = s.inPins := by unfold State.afterSample; split <;> rfl
@[simp] theorem State.afterSample_events (s : State) (p : Port) : (s.afterSample p).events = s.events := by unfold State.afterSample; split <;> rfl
@[simp] theorem State.afterSample_getReg (s : State) (p : Port) (j : Reg) : (s.afterSample p).getReg j = s.getReg j := by simp [State.getReg]
@[simp] theorem State.afterSample_memRead (s : State) (p : Port) (x : Word) : (s.afterSample p).memRead x = s.memRead x := by simp [State.memRead]

/-! `State.input` changes regs and inDraws only. -/

@[simp] theorem State.input_pc (s : State) (i : Reg) (p : Port) : (s.input i p).pc = s.pc := by simp [State.input]
@[simp] theorem State.input_sp (s : State) (i : Reg) (p : Port) : (s.input i p).sp = s.sp := by simp [State.input]
@[simp] theorem State.input_flags (s : State) (i : Reg) (p : Port) : (s.input i p).flags = s.flags := by simp [State.input]
@[simp] theorem State.input_ir0 (s : State) (i : Reg) (p : Port) : (s.input i p).ir0 = s.ir0 := by simp [State.input]
@[simp] theorem State.input_ir1 (s : State) (i : Reg) (p : Port) : (s.input i p).ir1 = s.ir1 := by simp [State.input]
@[simp] theorem State.input_ramaddrLatch (s : State) (i : Reg) (p : Port) : (s.input i p).ramaddrLatch = s.ramaddrLatch := by simp [State.input]
@[simp] theorem State.input_phases (s : State) (i : Reg) (p : Port) : (s.input i p).phases = s.phases := by simp [State.input]
@[simp] theorem State.input_wl (s : State) (i : Reg) (p : Port) : (s.input i p).wl = s.wl := by simp [State.input]
@[simp] theorem State.input_clk (s : State) (i : Reg) (p : Port) : (s.input i p).clk = s.clk := by simp [State.input]
@[simp] theorem State.input_ramAddr (s : State) (i : Reg) (p : Port) : (s.input i p).ramAddr = s.ramAddr := by simp [State.input]
@[simp] theorem State.input_ramOut (s : State) (i : Reg) (p : Port) : (s.input i p).ramOut = s.ramOut := by simp [State.input]
@[simp] theorem State.input_mem (s : State) (i : Reg) (p : Port) : (s.input i p).mem = s.mem := by simp [State.input]
@[simp] theorem State.input_inPins (s : State) (i : Reg) (p : Port) : (s.input i p).inPins = s.inPins := by simp [State.input]
@[simp] theorem State.input_events (s : State) (i : Reg) (p : Port) : (s.input i p).events = s.events := by simp [State.input]
@[simp] theorem State.input_memRead (s : State) (i : Reg) (p : Port) (x : Word) : (s.input i p).memRead x = s.memRead x := by simp [State.memRead]

/-! `activeRegWrite` changes regs and inDraws only. -/

@[simp] theorem activeRegWrite_pc (s : State) (d : Controls) : (activeRegWrite s d).pc = s.pc := by unfold activeRegWrite; split_ifs <;> simp
@[simp] theorem activeRegWrite_sp (s : State) (d : Controls) : (activeRegWrite s d).sp = s.sp := by unfold activeRegWrite; split_ifs <;> simp
@[simp] theorem activeRegWrite_flags (s : State) (d : Controls) : (activeRegWrite s d).flags = s.flags := by unfold activeRegWrite; split_ifs <;> simp
@[simp] theorem activeRegWrite_ir0 (s : State) (d : Controls) : (activeRegWrite s d).ir0 = s.ir0 := by unfold activeRegWrite; split_ifs <;> simp
@[simp] theorem activeRegWrite_ir1 (s : State) (d : Controls) : (activeRegWrite s d).ir1 = s.ir1 := by unfold activeRegWrite; split_ifs <;> simp
@[simp] theorem activeRegWrite_ramaddrLatch (s : State) (d : Controls) : (activeRegWrite s d).ramaddrLatch = s.ramaddrLatch := by unfold activeRegWrite; split_ifs <;> simp
@[simp] theorem activeRegWrite_phases (s : State) (d : Controls) : (activeRegWrite s d).phases = s.phases := by unfold activeRegWrite; split_ifs <;> simp
@[simp] theorem activeRegWrite_wl (s : State) (d : Controls) : (activeRegWrite s d).wl = s.wl := by unfold activeRegWrite; split_ifs <;> simp
@[simp] theorem activeRegWrite_clk (s : State) (d : Controls) : (activeRegWrite s d).clk = s.clk := by unfold activeRegWrite; split_ifs <;> simp
@[simp] theorem activeRegWrite_ramAddr (s : State) (d : Controls) : (activeRegWrite s d).ramAddr = s.ramAddr := by unfold activeRegWrite; split_ifs <;> simp
@[simp] theorem activeRegWrite_ramOut (s : State) (d : Controls) : (activeRegWrite s d).ramOut = s.ramOut := by unfold activeRegWrite; split_ifs <;> simp
@[simp] theorem activeRegWrite_mem (s : State) (d : Controls) : (activeRegWrite s d).mem = s.mem := by unfold activeRegWrite; split_ifs <;> simp
@[simp] theorem activeRegWrite_inPins (s : State) (d : Controls) : (activeRegWrite s d).inPins = s.inPins := by unfold activeRegWrite; split_ifs <;> simp
@[simp] theorem activeRegWrite_events (s : State) (d : Controls) : (activeRegWrite s d).events = s.events := by unfold activeRegWrite; split_ifs <;> simp
@[simp] theorem activeRegWrite_memRead (s : State) (d : Controls) (x : Word) : (activeRegWrite s d).memRead x = s.memRead x := by simp [State.memRead]

/-! `idleRegWrite` changes regs only. -/

@[simp] theorem idleRegWrite_pc (s : State) (d : Controls) : (idleRegWrite s d).pc = s.pc := by unfold idleRegWrite; split_ifs <;> simp
@[simp] theorem idleRegWrite_sp (s : State) (d : Controls) : (idleRegWrite s d).sp = s.sp := by unfold idleRegWrite; split_ifs <;> simp
@[simp] theorem idleRegWrite_flags (s : State) (d : Controls) : (idleRegWrite s d).flags = s.flags := by unfold idleRegWrite; split_ifs <;> simp
@[simp] theorem idleRegWrite_ir0 (s : State) (d : Controls) : (idleRegWrite s d).ir0 = s.ir0 := by unfold idleRegWrite; split_ifs <;> simp
@[simp] theorem idleRegWrite_ir1 (s : State) (d : Controls) : (idleRegWrite s d).ir1 = s.ir1 := by unfold idleRegWrite; split_ifs <;> simp
@[simp] theorem idleRegWrite_ramaddrLatch (s : State) (d : Controls) : (idleRegWrite s d).ramaddrLatch = s.ramaddrLatch := by unfold idleRegWrite; split_ifs <;> simp
@[simp] theorem idleRegWrite_phases (s : State) (d : Controls) : (idleRegWrite s d).phases = s.phases := by unfold idleRegWrite; split_ifs <;> simp
@[simp] theorem idleRegWrite_wl (s : State) (d : Controls) : (idleRegWrite s d).wl = s.wl := by unfold idleRegWrite; split_ifs <;> simp
@[simp] theorem idleRegWrite_clk (s : State) (d : Controls) : (idleRegWrite s d).clk = s.clk := by unfold idleRegWrite; split_ifs <;> simp
@[simp] theorem idleRegWrite_ramAddr (s : State) (d : Controls) : (idleRegWrite s d).ramAddr = s.ramAddr := by unfold idleRegWrite; split_ifs <;> simp
@[simp] theorem idleRegWrite_ramOut (s : State) (d : Controls) : (idleRegWrite s d).ramOut = s.ramOut := by unfold idleRegWrite; split_ifs <;> simp
@[simp] theorem idleRegWrite_mem (s : State) (d : Controls) : (idleRegWrite s d).mem = s.mem := by unfold idleRegWrite; split_ifs <;> simp
@[simp] theorem idleRegWrite_inPins (s : State) (d : Controls) : (idleRegWrite s d).inPins = s.inPins := by unfold idleRegWrite; split_ifs <;> simp
@[simp] theorem idleRegWrite_inDraws (s : State) (d : Controls) : (idleRegWrite s d).inDraws = s.inDraws := by unfold idleRegWrite; split_ifs <;> simp
@[simp] theorem idleRegWrite_events (s : State) (d : Controls) : (idleRegWrite s d).events = s.events := by unfold idleRegWrite; split_ifs <;> simp
@[simp] theorem idleRegWrite_memRead (s : State) (d : Controls) (x : Word) : (idleRegWrite s d).memRead x = s.memRead x := by simp [State.memRead]

/-! `ramWriteStep` changes mem and events only. -/

@[simp] theorem ramWriteStep_regs (p : Phases) (d : Controls) (c : Bool) (s : State) : (ramWriteStep p d c s).regs = s.regs := by unfold ramWriteStep; split_ifs <;> simp
@[simp] theorem ramWriteStep_pc (p : Phases) (d : Controls) (c : Bool) (s : State) : (ramWriteStep p d c s).pc = s.pc := by unfold ramWriteStep; split_ifs <;> simp
@[simp] theorem ramWriteStep_sp (p : Phases) (d : Controls) (c : Bool) (s : State) : (ramWriteStep p d c s).sp = s.sp := by unfold ramWriteStep; split_ifs <;> simp
@[simp] theorem ramWriteStep_flags (p : Phases) (d : Controls) (c : Bool) (s : State) : (ramWriteStep p d c s).flags = s.flags := by unfold ramWriteStep; split_ifs <;> simp
@[simp] theorem ramWriteStep_ir0 (p : Phases) (d : Controls) (c : Bool) (s : State) : (ramWriteStep p d c s).ir0 = s.ir0 := by unfold ramWriteStep; split_ifs <;> simp
@[simp] theorem ramWriteStep_ir1 (p : Phases) (d : Controls) (c : Bool) (s : State) : (ramWriteStep p d c s).ir1 = s.ir1 := by unfold ramWriteStep; split_ifs <;> simp
@[simp] theorem ramWriteStep_ramaddrLatch (p : Phases) (d : Controls) (c : Bool) (s : State) : (ramWriteStep p d c s).ramaddrLatch = s.ramaddrLatch := by unfold ramWriteStep; split_ifs <;> simp
@[simp] theorem ramWriteStep_phases (p : Phases) (d : Controls) (c : Bool) (s : State) : (ramWriteStep p d c s).phases = s.phases := by unfold ramWriteStep; split_ifs <;> simp
@[simp] theorem ramWriteStep_wl (p : Phases) (d : Controls) (c : Bool) (s : State) : (ramWriteStep p d c s).wl = s.wl := by unfold ramWriteStep; split_ifs <;> simp
@[simp] theorem ramWriteStep_clk (p : Phases) (d : Controls) (c : Bool) (s : State) : (ramWriteStep p d c s).clk = s.clk := by unfold ramWriteStep; split_ifs <;> simp
@[simp] theorem ramWriteStep_ramAddr (p : Phases) (d : Controls) (c : Bool) (s : State) : (ramWriteStep p d c s).ramAddr = s.ramAddr := by unfold ramWriteStep; split_ifs <;> simp
@[simp] theorem ramWriteStep_ramOut (p : Phases) (d : Controls) (c : Bool) (s : State) : (ramWriteStep p d c s).ramOut = s.ramOut := by unfold ramWriteStep; split_ifs <;> simp
@[simp] theorem ramWriteStep_inPins (p : Phases) (d : Controls) (c : Bool) (s : State) : (ramWriteStep p d c s).inPins = s.inPins := by unfold ramWriteStep; split_ifs <;> simp
@[simp] theorem ramWriteStep_inDraws (p : Phases) (d : Controls) (c : Bool) (s : State) : (ramWriteStep p d c s).inDraws = s.inDraws := by unfold ramWriteStep; split_ifs <;> simp
@[simp] theorem ramWriteStep_getReg (p : Phases) (d : Controls) (c : Bool) (s : State) (j : Reg) : (ramWriteStep p d c s).getReg j = s.getReg j := by simp [State.getReg]

/-! `ramReadStep` changes ramAddr and ramOut only. -/

@[simp] theorem ramReadStep_regs (n : Phases) (d : Controls) (s : State) : (ramReadStep n d s).regs = s.regs := by simp [ramReadStep]
@[simp] theorem ramReadStep_pc (n : Phases) (d : Controls) (s : State) : (ramReadStep n d s).pc = s.pc := by simp [ramReadStep]
@[simp] theorem ramReadStep_sp (n : Phases) (d : Controls) (s : State) : (ramReadStep n d s).sp = s.sp := by simp [ramReadStep]
@[simp] theorem ramReadStep_flags (n : Phases) (d : Controls) (s : State) : (ramReadStep n d s).flags = s.flags := by simp [ramReadStep]
@[simp] theorem ramReadStep_ir0 (n : Phases) (d : Controls) (s : State) : (ramReadStep n d s).ir0 = s.ir0 := by simp [ramReadStep]
@[simp] theorem ramReadStep_ir1 (n : Phases) (d : Controls) (s : State) : (ramReadStep n d s).ir1 = s.ir1 := by simp [ramReadStep]
@[simp] theorem ramReadStep_ramaddrLatch (n : Phases) (d : Controls) (s : State) : (ramReadStep n d s).ramaddrLatch = s.ramaddrLatch := by simp [ramReadStep]
@[simp] theorem ramReadStep_phases (n : Phases) (d : Controls) (s : State) : (ramReadStep n d s).phases = s.phases := by simp [ramReadStep]
@[simp] theorem ramReadStep_wl (n : Phases) (d : Controls) (s : State) : (ramReadStep n d s).wl = s.wl := by simp [ramReadStep]
@[simp] theorem ramReadStep_clk (n : Phases) (d : Controls) (s : State) : (ramReadStep n d s).clk = s.clk := by simp [ramReadStep]
@[simp] theorem ramReadStep_mem (n : Phases) (d : Controls) (s : State) : (ramReadStep n d s).mem = s.mem := by simp [ramReadStep]
@[simp] theorem ramReadStep_inPins (n : Phases) (d : Controls) (s : State) : (ramReadStep n d s).inPins = s.inPins := by simp [ramReadStep]
@[simp] theorem ramReadStep_inDraws (n : Phases) (d : Controls) (s : State) : (ramReadStep n d s).inDraws = s.inDraws := by simp [ramReadStep]
@[simp] theorem ramReadStep_events (n : Phases) (d : Controls) (s : State) : (ramReadStep n d s).events = s.events := by simp [ramReadStep]
@[simp] theorem ramReadStep_getReg (n : Phases) (d : Controls) (s : State) (j : Reg) : (ramReadStep n d s).getReg j = s.getReg j := by simp [State.getReg]
@[simp] theorem ramReadStep_memRead (n : Phases) (d : Controls) (s : State) (x : Word) : (ramReadStep n d s).memRead x = s.memRead x := by simp [State.memRead]

/-! `latchStep` changes ir0 and ir1 only. -/

@[simp] theorem latchStep_regs (n : Phases) (c : Bool) (s : State) : (latchStep n c s).regs = s.regs := by unfold latchStep; split_ifs <;> simp
@[simp] theorem latchStep_pc (n : Phases) (c : Bool) (s : State) : (latchStep n c s).pc = s.pc := by unfold latchStep; split_ifs <;> simp
@[simp] theorem latchStep_sp (n : Phases) (c : Bool) (s : State) : (latchStep n c s).sp = s.sp := by unfold latchStep; split_ifs <;> simp
@[simp] theorem latchStep_flags (n : Phases) (c : Bool) (s : State) : (latchStep n c s).flags = s.flags := by unfold latchStep; split_ifs <;> simp
@[simp] theorem latchStep_ramaddrLatch (n : Phases) (c : Bool) (s : State) : (latchStep n c s).ramaddrLatch = s.ramaddrLatch := by unfold latchStep; split_ifs <;> simp
@[simp] theorem latchStep_phases (n : Phases) (c : Bool) (s : State) : (latchStep n c s).phases = s.phases := by unfold latchStep; split_ifs <;> simp
@[simp] theorem latchStep_wl (n : Phases) (c : Bool) (s : State) : (latchStep n c s).wl = s.wl := by unfold latchStep; split_ifs <;> simp
@[simp] theorem latchStep_clk (n : Phases) (c : Bool) (s : State) : (latchStep n c s).clk = s.clk := by unfold latchStep; split_ifs <;> simp
@[simp] theorem latchStep_ramAddr (n : Phases) (c : Bool) (s : State) : (latchStep n c s).ramAddr = s.ramAddr := by unfold latchStep; split_ifs <;> simp
@[simp] theorem latchStep_ramOut (n : Phases) (c : Bool) (s : State) : (latchStep n c s).ramOut = s.ramOut := by unfold latchStep; split_ifs <;> simp
@[simp] theorem latchStep_mem (n : Phases) (c : Bool) (s : State) : (latchStep n c s).mem = s.mem := by unfold latchStep; split_ifs <;> simp
@[simp] theorem latchStep_inPins (n : Phases) (c : Bool) (s : State) : (latchStep n c s).inPins = s.inPins := by unfold latchStep; split_ifs <;> simp
@[simp] theorem latchStep_inDraws (n : Phases) (c : Bool) (s : State) : (latchStep n c s).inDraws = s.inDraws := by unfold latchStep; split_ifs <;> simp
@[simp] theorem latchStep_events (n : Phases) (c : Bool) (s : State) : (latchStep n c s).events = s.events := by unfold latchStep; split_ifs <;> simp
@[simp] theorem latchStep_getReg (n : Phases) (c : Bool) (s : State) (j : Reg) : (latchStep n c s).getReg j = s.getReg j := by simp [State.getReg]
@[simp] theorem latchStep_memRead (n : Phases) (c : Bool) (s : State) (x : Word) : (latchStep n c s).memRead x = s.memRead x := by simp [State.memRead]

/-! `portStep` changes events only. -/

@[simp] theorem portStep_regs (d : Controls) (s : State) : (portStep d s).regs = s.regs := by unfold portStep; split_ifs <;> simp
@[simp] theorem portStep_pc (d : Controls) (s : State) : (portStep d s).pc = s.pc := by unfold portStep; split_ifs <;> simp
@[simp] theorem portStep_sp (d : Controls) (s : State) : (portStep d s).sp = s.sp := by unfold portStep; split_ifs <;> simp
@[simp] theorem portStep_flags (d : Controls) (s : State) : (portStep d s).flags = s.flags := by unfold portStep; split_ifs <;> simp
@[simp] theorem portStep_ir0 (d : Controls) (s : State) : (portStep d s).ir0 = s.ir0 := by unfold portStep; split_ifs <;> simp
@[simp] theorem portStep_ir1 (d : Controls) (s : State) : (portStep d s).ir1 = s.ir1 := by unfold portStep; split_ifs <;> simp
@[simp] theorem portStep_ramaddrLatch (d : Controls) (s : State) : (portStep d s).ramaddrLatch = s.ramaddrLatch := by unfold portStep; split_ifs <;> simp
@[simp] theorem portStep_phases (d : Controls) (s : State) : (portStep d s).phases = s.phases := by unfold portStep; split_ifs <;> simp
@[simp] theorem portStep_wl (d : Controls) (s : State) : (portStep d s).wl = s.wl := by unfold portStep; split_ifs <;> simp
@[simp] theorem portStep_clk (d : Controls) (s : State) : (portStep d s).clk = s.clk := by unfold portStep; split_ifs <;> simp
@[simp] theorem portStep_ramAddr (d : Controls) (s : State) : (portStep d s).ramAddr = s.ramAddr := by unfold portStep; split_ifs <;> simp
@[simp] theorem portStep_ramOut (d : Controls) (s : State) : (portStep d s).ramOut = s.ramOut := by unfold portStep; split_ifs <;> simp
@[simp] theorem portStep_mem (d : Controls) (s : State) : (portStep d s).mem = s.mem := by unfold portStep; split_ifs <;> simp
@[simp] theorem portStep_inPins (d : Controls) (s : State) : (portStep d s).inPins = s.inPins := by unfold portStep; split_ifs <;> simp
@[simp] theorem portStep_inDraws (d : Controls) (s : State) : (portStep d s).inDraws = s.inDraws := by unfold portStep; split_ifs <;> simp
@[simp] theorem portStep_getReg (d : Controls) (s : State) (j : Reg) : (portStep d s).getReg j = s.getReg j := by simp [State.getReg]
@[simp] theorem portStep_memRead (d : Controls) (s : State) (x : Word) : (portStep d s).memRead x = s.memRead x := by simp [State.memRead]

/-! The register file, step 5. -/

@[simp] theorem registerStep_regs (s : State) (d : Controls) (c : Bool) :
    (registerStep s d c).regs = if c then (activeRegWrite s d).regs else (idleRegWrite s d).regs := by
  cases c <;> rfl
@[simp] theorem registerStep_pc (s : State) (d : Controls) (c : Bool) :
    (registerStep s d c).pc = if c then nextPc s d else s.pc := by cases c <;> simp [registerStep]
@[simp] theorem registerStep_sp (s : State) (d : Controls) (c : Bool) :
    (registerStep s d c).sp = if c then nextSp s d else s.sp := by cases c <;> simp [registerStep]
@[simp] theorem registerStep_flags (s : State) (d : Controls) (c : Bool) :
    (registerStep s d c).flags = if c then nextFlags s d else s.flags := by cases c <;> simp [registerStep]
@[simp] theorem registerStep_ramaddrLatch (s : State) (d : Controls) (c : Bool) :
    (registerStep s d c).ramaddrLatch = if c then s.ir1 else s.ramaddrLatch := by cases c <;> simp [registerStep]
@[simp] theorem registerStep_inDraws (s : State) (d : Controls) (c : Bool) :
    (registerStep s d c).inDraws = if c then (activeRegWrite s d).inDraws else s.inDraws := by
  cases c <;> simp [registerStep]
@[simp] theorem registerStep_ir0 (s : State) (d : Controls) (c : Bool) : (registerStep s d c).ir0 = s.ir0 := by
  cases c <;> simp [registerStep]
@[simp] theorem registerStep_ir1 (s : State) (d : Controls) (c : Bool) : (registerStep s d c).ir1 = s.ir1 := by
  cases c <;> simp [registerStep]
@[simp] theorem registerStep_phases (s : State) (d : Controls) (c : Bool) : (registerStep s d c).phases = s.phases := by
  cases c <;> simp [registerStep]
@[simp] theorem registerStep_wl (s : State) (d : Controls) (c : Bool) : (registerStep s d c).wl = s.wl := by
  cases c <;> simp [registerStep]
@[simp] theorem registerStep_clk (s : State) (d : Controls) (c : Bool) : (registerStep s d c).clk = s.clk := by
  cases c <;> simp [registerStep]
@[simp] theorem registerStep_ramAddr (s : State) (d : Controls) (c : Bool) : (registerStep s d c).ramAddr = s.ramAddr := by
  cases c <;> simp [registerStep]
@[simp] theorem registerStep_ramOut (s : State) (d : Controls) (c : Bool) : (registerStep s d c).ramOut = s.ramOut := by
  cases c <;> simp [registerStep]
@[simp] theorem registerStep_mem (s : State) (d : Controls) (c : Bool) : (registerStep s d c).mem = s.mem := by
  cases c <;> simp [registerStep]
@[simp] theorem registerStep_inPins (s : State) (d : Controls) (c : Bool) : (registerStep s d c).inPins = s.inPins := by
  cases c <;> simp [registerStep]
@[simp] theorem registerStep_events (s : State) (d : Controls) (c : Bool) : (registerStep s d c).events = s.events := by
  cases c <;> simp [registerStep]

/-! One tick, field by field. The state after step 6 is named, since the read-ahead and the port read it. -/

/-- The state after steps 5 and 6 of a tick (R281). -/
def afterWrite (s : State) (d : Controls) (c : Bool) : State := ramWriteStep s.phases d c (registerStep s d c)

@[simp] theorem tickWith_regs (s : State) (d : Controls) (c : Bool) :
    (tickWith s d c).regs = (registerStep s d c).regs := by simp [tickWith]
@[simp] theorem tickWith_pc (s : State) (d : Controls) (c : Bool) :
    (tickWith s d c).pc = if c then nextPc s d else s.pc := by simp [tickWith]
@[simp] theorem tickWith_sp (s : State) (d : Controls) (c : Bool) :
    (tickWith s d c).sp = if c then nextSp s d else s.sp := by simp [tickWith]
@[simp] theorem tickWith_flags (s : State) (d : Controls) (c : Bool) :
    (tickWith s d c).flags = if c then nextFlags s d else s.flags := by simp [tickWith]
@[simp] theorem tickWith_ramaddrLatch (s : State) (d : Controls) (c : Bool) :
    (tickWith s d c).ramaddrLatch = if c then s.ir1 else s.ramaddrLatch := by simp [tickWith]
@[simp] theorem tickWith_phases (s : State) (d : Controls) (c : Bool) :
    (tickWith s d c).phases = nextPhases s.phases d c := by simp [tickWith]
@[simp] theorem tickWith_wl (s : State) (d : Controls) (c : Bool) :
    (tickWith s d c).wl = nextWl s.wl d (nextPhases s.phases d c) c := by simp [tickWith]
@[simp] theorem tickWith_clk (s : State) (d : Controls) (c : Bool) :
    (tickWith s d c).clk = !s.clk := by simp [tickWith]
@[simp] theorem tickWith_mem (s : State) (d : Controls) (c : Bool) :
    (tickWith s d c).mem = (afterWrite s d c).mem := by simp [tickWith, afterWrite]
@[simp] theorem tickWith_inPins (s : State) (d : Controls) (c : Bool) :
    (tickWith s d c).inPins = s.inPins := by simp [tickWith]
@[simp] theorem tickWith_inDraws (s : State) (d : Controls) (c : Bool) :
    (tickWith s d c).inDraws = if c then (activeRegWrite s d).inDraws else s.inDraws := by simp [tickWith]
@[simp] theorem tickWith_getReg (s : State) (d : Controls) (c : Bool) (j : Reg) :
    (tickWith s d c).getReg j = (registerStep s d c).getReg j := by simp only [State.getReg, tickWith_regs]
@[simp] theorem tickWith_memRead (s : State) (d : Controls) (c : Bool) (x : Word) :
    (tickWith s d c).memRead x = (afterWrite s d c).memRead x := by simp only [State.memRead, tickWith_mem]

/-- An active half latches neither instruction word (R268). -/
theorem tickWith_ir0_active (s : State) (d : Controls) : (tickWith s d true).ir0 = s.ir0 := by
  simp [tickWith, latchStep]

theorem tickWith_ir1_active (s : State) (d : Controls) : (tickWith s d true).ir1 = s.ir1 := by
  simp [tickWith, latchStep]

/-- `tickN` splits at any number of ticks. -/
theorem tickN_add (m n : Nat) (s : State) : tickN (m + n) s = tickN n (tickN m s) := by
  induction m generalizing s with
  | zero => simp [tickN]
  | succ k ih => rw [Nat.succ_add]; exact ih (tick s)

/-- A halt signal gates the clock: the tick is an idle half (R291). -/
theorem tick_of_hlt {s : State} (h : (controls s.ir0 s.flags).hlt = true) :
    tick s = tickWith s (controls s.ir0 s.flags) false := by
  simp [tick, h]

end Sys2Proof.Machine
end

