-- ==== Sys2Proof/Laws/Ops.lean ====
section
/-! SUPPORT. For each shared operation of the meanings, what it does, said once, and that it keeps the
memory's canonical form. -/

namespace Sys2Proof.Machine

/-! ## The canonical form -/

theorem State.wf_setWord {s : State} (h : s.mem.wf = true) (a v : Word) : (s.setWord a v).mem.wf = true :=
  Memory.wf_write h a v

theorem State.wf_memWrite {s : State} (h : s.mem.wf = true) (a v : Word) : (s.memWrite a v).mem.wf = true :=
  Memory.wf_write h a v

theorem State.wf_push {s : State} (h : s.mem.wf = true) (v : Word) : (s.push v).mem.wf = true :=
  Memory.wf_write h s.sp v

theorem wf_ramWriteStep {s : State} (h : s.mem.wf = true) (p : Phases) (d : Controls) (c : Bool) :
    (ramWriteStep p d c s).mem.wf = true := by
  unfold ramWriteStep
  split_ifs
  · exact State.wf_memWrite h _ _
  · exact h

/-! ## Ports and registers -/

/-- A sample uses up a draw exactly where the host has set no value. -/
theorem State.afterSample_inDraws (s : State) (p : Port) :
    (s.afterSample p).inDraws = if s.inPins.pin p = none then s.inDraws + 1 else s.inDraws := by
  unfold State.afterSample
  cases h : s.inPins.pin p <;> simp

/-- IN's write: the sampled value, every other register as before. -/
theorem State.getReg_input (s : State) (i j : Reg) (p : Port) :
    (s.input i p).getReg j = if j = i then s.portValue p else s.getReg j := by
  simp [State.input, State.getReg_setReg]

/-- A class-0 or NOT result: the destination takes the ALU's output, and every other register stays. -/
theorem aluToReg_getReg (op : BitVec 4) (d a b j : Reg) (s : State) :
    (aluToReg op d a b s).getReg j = if j = d then aluResult (s.getReg a) (s.getReg b) op else s.getReg j := by
  simp [aluToReg, State.getReg_setReg, alu]

/-- A pop reads the word above SP. -/
theorem State.top_eq (s : State) : s.top = s.memRead (s.sp + 1) := rfl

/-- The word at SP after a push is the one pushed, as a pop reads it. -/
theorem State.top_push {s : State} (h : s.mem.wf = true) (v : Word) : (s.push v).top = v := by
  have e : (s.push v).sp + 1 = s.sp := by simp
  rw [State.top_eq, e, State.memRead_push_self h]

end Sys2Proof.Machine
end

