-- ==== Sys2Proof/Laws/HostPort.lean ====
section
/-! SUPPORT. What the host sees and does: setting an input port, the value an output port shows, and where a
run ends. -/

namespace Sys2Proof.Machine

/-! ## Setting an input port changes that port only -/

@[simp] theorem setInputPort_regs (s : State) (p : Port) (v : Word) : (setInputPort s p v).regs = s.regs := rfl
@[simp] theorem setInputPort_pc (s : State) (p : Port) (v : Word) : (setInputPort s p v).pc = s.pc := rfl
@[simp] theorem setInputPort_sp (s : State) (p : Port) (v : Word) : (setInputPort s p v).sp = s.sp := rfl
@[simp] theorem setInputPort_flags (s : State) (p : Port) (v : Word) : (setInputPort s p v).flags = s.flags := rfl
@[simp] theorem setInputPort_ir0 (s : State) (p : Port) (v : Word) : (setInputPort s p v).ir0 = s.ir0 := rfl
@[simp] theorem setInputPort_ir1 (s : State) (p : Port) (v : Word) : (setInputPort s p v).ir1 = s.ir1 := rfl
@[simp] theorem setInputPort_ramaddrLatch (s : State) (p : Port) (v : Word) : (setInputPort s p v).ramaddrLatch = s.ramaddrLatch := rfl
@[simp] theorem setInputPort_phases (s : State) (p : Port) (v : Word) : (setInputPort s p v).phases = s.phases := rfl
@[simp] theorem setInputPort_wl (s : State) (p : Port) (v : Word) : (setInputPort s p v).wl = s.wl := rfl
@[simp] theorem setInputPort_clk (s : State) (p : Port) (v : Word) : (setInputPort s p v).clk = s.clk := rfl
@[simp] theorem setInputPort_ramAddr (s : State) (p : Port) (v : Word) : (setInputPort s p v).ramAddr = s.ramAddr := rfl
@[simp] theorem setInputPort_ramOut (s : State) (p : Port) (v : Word) : (setInputPort s p v).ramOut = s.ramOut := rfl
@[simp] theorem setInputPort_mem (s : State) (p : Port) (v : Word) : (setInputPort s p v).mem = s.mem := rfl
@[simp] theorem setInputPort_inDraws (s : State) (p : Port) (v : Word) : (setInputPort s p v).inDraws = s.inDraws := rfl
@[simp] theorem setInputPort_events (s : State) (p : Port) (v : Word) : (setInputPort s p v).events = s.events := rfl
@[simp] theorem setInputPort_getReg (s : State) (p : Port) (v : Word) (j : Reg) :
    (setInputPort s p v).getReg j = s.getReg j := rfl
@[simp] theorem setInputPort_memRead (s : State) (p : Port) (v : Word) (x : Word) :
    (setInputPort s p v).memRead x = s.memRead x := rfl

/-- The port just set holds the value set, and every other port what it held. -/
theorem InputPins.pin_set (pins : InputPins) (p q : Port) (v : Word) :
    (pins.set p v).pin q = if q = p then some v else pins.pin q := by
  cases p <;> cases q <;> rfl

/-- What an IN would sample after the host sets a port. -/
theorem portValue_setInputPort (s : State) (p q : Port) (v : Word) :
    (setInputPort s p v).portValue q = if q = p then v else s.portValue q := by
  cases p <;> cases q <;> rfl

/-! ## What an output port shows -/

/-- The last event for a port decides what it shows. -/
theorem portShows_append (p : Port) (es fs : List Event) :
    portShows p (es ++ fs) = ((portShows p fs).orElse fun _ => portShows p es) := by
  induction es with
  | nil => cases h : portShows p fs <;> simp [portShows, h]
  | cons e t ih =>
    cases e with
    | pixel a w => simpa [portShows] using ih
    | outPort q v =>
      simp only [List.cons_append, portShows, ih]
      split_ifs
      · cases portShows p fs <;> simp
      · rfl

/-! ## Where a run ends -/

@[simp] theorem tickRun_zero (s : State) : tickRun 0 s = s.result := rfl

/-- A run of a halted machine ends at once. -/
theorem tickRun_halted {s : State} (h : halted s = true) (n : Nat) : tickRun n s = s.result := by
  cases n <;> simp [tickRun, h]

/-- A machine that is not halted makes its next tick. -/
theorem tickRun_succ {s : State} (h : halted s = false) (n : Nat) : tickRun (n + 1) s = tickRun n (tick s) := by
  simp [tickRun, h]

/-- The status says whether the machine is halted. -/
theorem State.status_eq_halted (s : State) : s.status = .halted ↔ Machine.halted s = true := by
  unfold State.status
  split_ifs with h <;> simp [h]

end Sys2Proof.Machine
end

