-- ==== Sys2Proof/Machine/DebugTaps.lean ====
section
/-! DEFINITION. The debug taps (spec/10_state.md R47, R48; spec/46_sequencer.md R284): what a tick and a Reset
report to the host besides the output-port and pixel events. They have no effect on the state, so they are
a function of the states before and after. Log entry 6. -/

namespace Sys2Proof.Machine

/-- The registers whose changes are reported; the numbers the source gives them are not in it (N8). -/
inductive RegisterId where
  | gpr (i : Reg)
  | pc
  | sp
  | flags
  | ir0
  | ir1
  | ramaddr
  deriving DecidableEq, Repr

/-- The visualization events (R47), but for the pixel event, which is an `Event`. -/
inductive DebugEvent where
  /-- `onRegisterChanged(registerId, value)`; FLAGS is widened to a word. -/
  | registerChanged (r : RegisterId) (v : Word)
  /-- `onRamAddressCursorChanged(oldAddress, newAddress)`. -/
  | ramCursor (old new : Word)
  /-- `onClockLevelChanged(level)`. -/
  | clockLevel (level : Bool)
  /-- `onPhaseFlagsChanged(flags)`. -/
  | phaseFlags (p : Phases)
  deriving DecidableEq, Repr

/-- The value of a register the taps report. -/
def State.tapValue (s : State) (r : RegisterId) : Word :=
  match r with
  | .gpr i => s.getReg i
  | .pc => s.pc
  | .sp => s.sp
  | .flags => s.flags.zeroExtend 16
  | .ir0 => s.ir0
  | .ir1 => s.ir1
  | .ramaddr => s.ramaddrLatch

/-- Every register the taps report. -/
def tappedRegisters : List RegisterId :=
  [.gpr 0, .gpr 1, .gpr 2, .gpr 3, .gpr 4, .gpr 5, .gpr 6, .gpr 7, .pc, .sp, .flags, .ir0, .ir1, .ramaddr]

/-- "Fired whenever any register's stored value changes" (R47). -/
def registerTaps (before after : State) : List DebugEvent :=
  (tappedRegisters.filter fun r => before.tapValue r != after.tapValue r).map fun r =>
    .registerChanged r (after.tapValue r)

/-- The flags notification, when a flag changed (R284). -/
def phaseTaps (before after : State) : List DebugEvent :=
  if before.phases = after.phases then [] else [.phaseFlags after.phases]

/-- What a tick from `s` reports (R284): the RAM cursor, the changed registers, the clock level and the
phase flags if one changed. -/
def tickTaps (s : State) : List DebugEvent :=
  .ramCursor s.ramAddr (tick s).ramAddr :: registerTaps s (tick s)
    ++ .clockLevel (tick s).clk :: phaseTaps s (tick s)

/-- The cursor notification, when the cursor moved (R47). -/
def cursorTaps (before after : State) : List DebugEvent :=
  if before.ramAddr = after.ramAddr then [] else [.ramCursor before.ramAddr after.ramAddr]

/-- The clock notification, when the clock bit changed (R47). -/
def clockTaps (before after : State) : List DebugEvent :=
  if before.clk = after.clk then [] else [.clockLevel after.clk]

/-- What Reset reports: the cursor, the registers and the clock level where it changes them (R47), and in
every case its flipflop-state notification (70_reset_and_hazards.md R320). -/
def resetTaps (s : State) : List DebugEvent :=
  cursorTaps s (resetMachine s) ++ registerTaps s (resetMachine s) ++ clockTaps s (resetMachine s)
    ++ [.phaseFlags (resetMachine s).phases]

/-- What `n` ticks report, in order. -/
def tickNTaps (n : Nat) (s : State) : List DebugEvent :=
  match n with
  | 0 => []
  | k + 1 => tickTaps s ++ tickNTaps k (tick s)

/-- What a host action reports: an image load, a single-word write, a port change and a drain change nothing
the taps report (20_memory.md R72, R73). -/
def hostTaps (a : HostAction) (s : State) : List DebugEvent :=
  match a with
  | .tick => tickTaps s
  | .runFrame f => tickNTaps (frameTicks f) s
  | .reset => resetTaps s
  | .loadImage _ => []
  | .write _ _ => []
  | .setInputPort _ _ => []
  | .drainEvents => []

end Sys2Proof.Machine
end

