-- ==== Sys2Proof/Tests/Slice0.lean ====
section
/-! SUPPORT. Small tests: the checks of WellFormed refuse, words written out from the spec's encodings decode,
single steps and single ticks leave what spec/95_test_vectors.md says, and for every statement with
hypotheses a concrete state meets them. -/

open Sys2Proof Sys2Proof.Machine Sys2Proof.Safety

namespace Sys2Proof.Tests

/-! ## WellFormed refuses (spec/20_memory.md R72) -/

theorem test_short_image_refused : imageSizeOk [.word 0] = false := by decide

theorem test_image_token_refused : imageNumericOk [.word 0, .nonNumeric] = false := by decide

theorem test_short_image_not_well_formed : imageWellFormed [.word 0] = false := by decide

/-! ## The decoder rejects by name, and only where the words run out -/

theorem test_no_word_rejected : decode [] = .rejected .noInstructionWord := by decide

theorem test_no_extension_rejected : decode [0x4000] = .rejected .noExtensionWord := by decide

/-! ## Decoding

Every (class, subopcode) pair of spec/opcode_table.json, its word written from the row's `encoding` string
with dst = 5, srcA = 2, srcB = 6 in the fields the row names, and 1 in every ignored bit. The extension word is
0xBEE5. -/

/-- What each of a list of words decodes to, with the extension word 0xBEE5. -/
def decodeAll (ws : List Word) : List Instr := ws.map (fun w => decodePair w 0xBEE5)

theorem test_decode_class0 : decodeAll [
      0x0156, 0x0356, 0x0556, 0x0756, 0x0956, 0x0B56, 0x0D56, 0x0F56, 0x1156, 0x1356, 0x157F, 0x177F,
      0x197F, 0x1B7F, 0x1D7F, 0x1F7F] = [
      .add 5 2 6, .sub 5 2 6, .mul 5 2 6, .div 5 2 6, .mod 5 2 6, .and 5 2 6, .or 5 2 6, .nand 5 2 6,
      .nor 5 2 6, .xor 5 2 6, .zero10 5, .zero11 5, .zero12 5, .zero13 5, .zero14 5, .zero15 5] := by decide

theorem test_decode_class1 : decodeAll [
      0x21FF, 0x23FF, 0x25FF, 0x27FF, 0x29FF, 0x2BFF, 0x2DFF, 0x2FFF, 0x31FF, 0x33FF, 0x35D6, 0x3757,
      0x39FF, 0x3BFF, 0x3DFF, 0x3FFF] = [
      .nop1_0, .nop1_1, .nop1_2, .nop1_3, .nop1_4, .nop1_5, .nop1_6, .nop1_7, .nop1_8, .nop1_9, .cmp 2 6,
      .not 5 2, .nop1_12, .nop1_13, .nop1_14, .nop1_15] := by decide

theorem test_decode_class2 : decodeAll [
      0x417F, 0x437F, 0x457F, 0x477F, 0x497F, 0x4B7F, 0x4D7F, 0x4F7F, 0x517F, 0x537F, 0x557F, 0x577F,
      0x597F, 0x5B7F, 0x5D7F, 0x5F7F] = [
      .ldi 5 0xBEE5, .ldi1 5 0xBEE5, .ldi2 5 0xBEE5, .ldi3 5 0xBEE5, .ldi4 5 0xBEE5, .ldi5 5 0xBEE5,
      .ldi6 5 0xBEE5, .ldi7 5 0xBEE5, .ldi8 5 0xBEE5, .ldi9 5 0xBEE5, .ldi10 5 0xBEE5, .ldi11 5 0xBEE5,
      .ldi12 5 0xBEE5, .ldi13 5 0xBEE5, .ldi14 5 0xBEE5, .ldi15 5 0xBEE5] := by decide

theorem test_decode_class3 : decodeAll [
      0x617F, 0x63D7, 0x65D6, 0x677E, 0x69FF, 0x6BFF, 0x6DFF, 0x6FFF, 0x71FF, 0x73FF, 0x75FF, 0x77FF,
      0x79FF, 0x7BFF, 0x7DFF, 0x7FFF] = [
      .ld 5 0xBEE5, .st 2 0xBEE5, .str 2 6, .ldr 5 6, .nop3_4, .nop3_5, .nop3_6, .nop3_7, .nop3_8, .nop3_9,
      .nop3_10, .nop3_11, .nop3_12, .nop3_13, .nop3_14, .nop3_15] := by decide

theorem test_decode_class4 : decodeAll [
      0x81FF, 0x83FF, 0x85FF, 0x87FF, 0x89FF, 0x8BFF, 0x8DFF, 0x8FFF, 0x91FF, 0x93FF, 0x95FF, 0x97FF,
      0x99FF, 0x9BFF, 0x9DFF, 0x9FFF] = [
      .jmp 0xBEE5, .jc 0xBEE5, .jnc 0xBEE5, .jv 0xBEE5, .jcv 0xBEE5, .jncv 0xBEE5, .jnv 0xBEE5,
      .jlt 0xBEE5, .jclt 0xBEE5, .jnclt 0xBEE5, .jlta 0xBEE5, .jsr 0xBEE5, .rts, .nop4_13, .nop4_14,
      .nop4_15] := by decide

theorem test_decode_class5 : decodeAll [
      0xA1D7, 0xA37F, 0xA5D7, 0xA7D7, 0xA9D7, 0xABD7, 0xADD7, 0xAFD7, 0xB1D7, 0xB3D7, 0xB5D7, 0xB7D7,
      0xB9D7, 0xBBD7, 0xBDD7, 0xBFD7] = [
      .push 2, .pop 5, .push2 2, .push3 2, .push4 2, .push5 2, .push6 2, .push7 2, .push8 2, .push9 2,
      .push10 2, .push11 2, .push12 2, .push13 2, .push14 2, .push15 2] := by decide

theorem test_decode_class6 : decodeAll [
      0xC1FF, 0xC3FF, 0xC5FF, 0xC7FF, 0xC9FF, 0xCBFF, 0xCDFF, 0xCFFF, 0xD1FF, 0xD3FF, 0xD5FF, 0xD7FF,
      0xD9FF, 0xDBFF, 0xDDFF, 0xDFFF] = [
      .nop6_0, .nop6_1, .nop6_2, .nop6_3, .nop6_4, .nop6_5, .nop6_6, .nop6_7, .nop6_8, .nop6_9, .nop6_10,
      .nop6_11, .nop6_12, .nop6_13, .nop6_14, .nop6_15] := by decide

theorem test_decode_class7 : decodeAll [
      0xE1FF, 0xE37F, 0xE57F, 0xE77F, 0xE9D7, 0xEBD7, 0xEDD7, 0xEFFF, 0xF1FF, 0xF3FF, 0xF5FF, 0xF7FF,
      0xF9FF, 0xFBFF, 0xFDFF, 0xFFFF] = [
      .hlt, .inA 5, .inB 5, .inC 5, .outA 2, .outB 2, .outC 2, .nop7_7, .nop7_8, .nop7_9, .nop7_10,
      .nop7_11, .nop7_12, .nop7_13, .nop7_14, .nop7_15] := by decide

/-- An extension word is decoded with the word before it, and the rest is left. -/
theorem test_decode_ldi : decode [0x4000, 0x0005, 0xE000] = .instr (.ldi 0 5) [0xE000] := by decide

/-- The words of R110 come out of the encoder. -/
theorem test_encode_st : encode (.st 2 0x20) = [0x6210, 0x0020] := by decide

/-! ## Steps

Values from spec/95_test_vectors.md and from the examples of the instruction rules. -/

/-- A machine after Reset with a program at address 0. -/
def start (program : List Word) : State :=
  resetMachine { State.reset with mem := Memory.ofImage 0 (program.map ImageToken.word) }

/-- Registers 2 and 3 set. -/
def with23 (s : State) (x y : Word) : State := (s.setReg 2 x).setReg 3 y

/-- The state a step leaves; the same state where it leaves none. -/
def after (s : State) : State :=
  match step s with
  | .next t => t
  | _ => s

/-- What register 1 holds after a word is run with registers 2 and 3 as given. -/
def r1After (w x y : Word) : Word := (after (with23 (start [w]) x y)).getReg 1

theorem test_add : r1After 0x0053 0x1234 0x0F0F = 0x2143 := by decide
theorem test_add_wraps : r1After 0x0053 0xFFFF 0x0001 = 0 := by decide
theorem test_sub : r1After 0x0253 5 7 = 0xFFFE := by decide
theorem test_mul : r1After 0x0453 0x0123 0x0100 = 0x2300 := by decide
theorem test_div : r1After 0x0653 100 7 = 14 := by decide
theorem test_div_zero : r1After 0x0653 7 0 = 0 := by decide
theorem test_mod : r1After 0x0853 100 7 = 2 := by decide
theorem test_mod_zero : r1After 0x0853 7 0 = 0 := by decide
theorem test_and : r1After 0x0A53 0xF0F0 0x3C3C = 0x3030 := by decide
theorem test_or : r1After 0x0C53 0xF0F0 0x3C3C = 0xFCFC := by decide
theorem test_nand : r1After 0x0E53 0xF0F0 0x3C3C = 0xCFCF := by decide
theorem test_nor : r1After 0x1053 0xF0F0 0x3C3C = 0x0303 := by decide
theorem test_xor : r1After 0x1253 0xF0F0 0x3C3C = 0xCCCC := by decide
theorem test_zero10 : (after ((start [0x1440]).setReg 1 0x1234)).getReg 1 = 0 := by decide
theorem test_not : r1After 0x3650 0x00FF 0 = 0xFF00 := by decide

/-- FLAGS after CMP r2, r3. -/
def cmpFlags (x y : Word) : BitVec 4 := (after (with23 (start [0x3413]) x y)).flags

theorem test_cmp_borrow : cmpFlags 5 7 = 0x6 := by decide
theorem test_cmp_overflow : cmpFlags 0x7FFF 0xFFFF = 0xE := by decide

theorem test_nop1_0 : after (start [0x2000]) = (start [0x2000]).endOneWord := by decide
theorem test_nop6_0 : (after (start [0xC000])).pc = 1 := by decide
theorem test_ffff_inert : (after (start [0xFFFF])).pc = 1 := by decide
theorem test_nop4_13 : (after (start [0x9A00, 0x0010])).pc = 1 := by decide

theorem test_ldi : (after (start [0x4000, 0x0005])).getReg 0 = 5 := by decide
theorem test_ldi7 : (after (start [0x4E40, 0x1234])).getReg 1 = 0x1234 := by decide

/-- LDI at 0xFFFF takes its extension word from 0x0000 (V-ldi-4). -/
theorem test_ldi_wraps :
    let t := after (((start [0x0777]).setPc 0xFFFF).withFetchWord 32 0x07774080)
    t.getReg 2 = 0x0777 ∧ t.pc = 1 := by decide

theorem test_ld : (after ((start [0x6040, 0x0020]).setWord 0x20 0x1234)).getReg 1 = 0x1234 := by decide
theorem test_st : (after ((start [0x6210, 0x0020]).setReg 2 0xAAAA)).memRead 0x20 = 0xAAAA := by decide

/-- A store to the word after it is the next instruction (V-st-3). -/
theorem test_st_next : (after ((start [0x6210, 0x0002]).setReg 2 0xE000)).ir0 = 0xE000 := by decide

theorem test_str : (after (with23 (start [0x6413]) 0xAAAA 0x30)).memRead 0x30 = 0xAAAA := by decide

/-- A store into the framebuffer emits its pixel (R70). -/
theorem test_str_pixel :
    (after (with23 (start [0x6413]) 0xF800 0x8000)).events = [.pixel 0x8000 0xF800] := by decide

theorem test_ldr : (after ((with23 (start [0x6643]) 0 0x30).setWord 0x30 0x0777)).getReg 1 = 0x0777 := by
  decide

/-- PC after a jump to 0x0010 from address 0, with FLAGS as given. -/
def jumpPc (w : Word) (f : BitVec 4) : Word := (after ((start [w, 0x0010]).setFlags f)).pc

theorem test_jmp : jumpPc 0x8000 0x0 = 0x10 := by decide
theorem test_jc : jumpPc 0x8200 0x4 = 0x10 ∧ jumpPc 0x8200 0x0 = 2 := by decide
theorem test_jnc : jumpPc 0x8400 0x0 = 0x10 ∧ jumpPc 0x8400 0x4 = 2 := by decide
theorem test_jv : jumpPc 0x8600 0x8 = 0x10 ∧ jumpPc 0x8600 0x7 = 2 := by decide
theorem test_jcv : jumpPc 0x8800 0x8 = 0x10 ∧ jumpPc 0x8800 0x3 = 2 := by decide
theorem test_jncv : jumpPc 0x8A00 0x3 = 0x10 ∧ jumpPc 0x8A00 0x4 = 2 := by decide
theorem test_jnv : jumpPc 0x8C00 0x7 = 0x10 ∧ jumpPc 0x8C00 0x8 = 2 := by decide
theorem test_jlt : jumpPc 0x8E00 0x2 = 0x10 ∧ jumpPc 0x8E00 0x4 = 2 := by decide
theorem test_jclt : jumpPc 0x9000 0x4 = 0x10 ∧ jumpPc 0x9000 0xA = 2 := by decide
theorem test_jnclt : jumpPc 0x9200 0xA = 0x10 ∧ jumpPc 0x9200 0x2 = 2 := by decide
theorem test_jlta : jumpPc 0x9400 0x8 = 0x10 ∧ jumpPc 0x9400 0xA = 2 := by decide

theorem test_jsr :
    let t := after (start [0x9600, 0x0010])
    t.memRead 0xFFFF = 2 ∧ t.sp = 0xFFFE ∧ t.pc = 0x10 := by decide

theorem test_jsr_wraps : (after ((start [0x9600, 0x0010]).setSp 0)).sp = 0xFFFF := by decide

theorem test_rts :
    let t := after (((start [0x9800]).setSp 0xFFFE).setWord 0xFFFF 0x40)
    t.sp = 0xFFFF ∧ t.pc = 0x40 := by decide

theorem test_push :
    let t := after ((start [0xA010]).setReg 2 0xAAAA)
    t.memRead 0xFFFF = 0xAAAA ∧ t.sp = 0xFFFE := by decide

theorem test_push15 : (after ((start [0xBE28]).setReg 5 0x0123)).memRead 0xFFFF = 0x0123 := by decide

theorem test_pop :
    let t := after (((start [0xA240]).setSp 0xFFFE).setWord 0xFFFF 0x4321)
    t.getReg 1 = 0x4321 ∧ t.sp = 0xFFFF := by decide

/-- A pop at SP = 0xFFFF reads address 0 (V-pop-2). -/
theorem test_pop_wraps : (after (start [0xA240])).getReg 1 = 0xA240 := by decide

theorem test_hlt : after (start [0xE000]) = start [0xE000] := by decide
theorem test_in : (after (setInputPort (start [0xE4C0]) .b 0xBEEF)).getReg 3 = 0xBEEF := by decide

/-- An unset port gives a draw, and the draw is used up. -/
theorem test_in_free :
    (after (start [0xE240])).getReg 1 = Config.inPortDraw .a 0 ∧ (after (start [0xE240])).inDraws = 1 := by
  exact ⟨rfl, rfl⟩

theorem test_out : (after ((start [0xEC20]).setReg 4 0x00FF)).events = [.outPort .c 0x00FF] := by decide

/-- Power-on with no image runs ADD r0, r0, r0 at every address (R322). -/
theorem test_reset_step : step State.reset = exec (.add 0 0 0) State.reset := by rfl

/-! ## Ticks (spec/95_test_vectors.md, section 8) -/

/-- T-tick-1: r0 = 5 after two ticks, and the HLT is in IR0 after four. -/
theorem test_tick_ldi :
    let s := start [0x4000, 0x0005, 0xE000]
    (tickN 2 s).getReg 0 = 5 ∧ (tickN 2 s).pc = 1 ∧ (tickN 4 s).ir0 = 0xE000 ∧ (tickN 4 s).pc = 2 := by decide

/-- T-tick-2: WL is set on tick 4, the store commits on tick 5, and WL is clear again after tick 6. -/
theorem test_tick_st :
    let s := (start [0x6210, 0x0020, 0xE000]).setReg 2 0xAAAA
    (tickN 4 s).wl = true ∧ (tickN 4 s).memRead 0x20 = 0 ∧ (tickN 5 s).memRead 0x20 = 0xAAAA
      ∧ (tickN 6 s).wl = false := by decide

/-- T-tick-4: the push of a JSR commits on tick 4, and SP moves on tick 5. -/
theorem test_tick_jsr :
    let s := start [0x9600, 0x0010, 0xE000]
    (tickN 4 s).memRead 0xFFFF = 2 ∧ (tickN 4 s).sp = 0xFFFF ∧ (tickN 5 s).sp = 0xFFFE := by decide

/-- T-tick-6: an OUT's event is emitted on both of its ticks. -/
theorem test_tick_out :
    (tickN 2 ((start [0xE810]).setReg 2 0xAA)).events = [.outPort .a 0xAA, .outPort .a 0xAA] := by decide

/-- The taps of a CMP's first tick: the cursor, FLAGS and PC, and the clock (R284). -/
theorem test_taps :
    tickTaps (with23 (start [0x3413]) 5 5) =
      [.ramCursor 0 1, .registerChanged .pc 1, .registerChanged .flags 1, .clockLevel true] := by decide

/-- Reset reports the cursor, the registers and the clock where it changes them (R47), and the phase flags in
every case (R320). -/
theorem test_reset_taps :
    resetTaps (tickN 1 (start [0x6210, 0x0020])) =
      [.ramCursor 1 0, .registerChanged .pc 0, .clockLevel false, .phaseFlags .none] := by decide

/-- Reset of a machine just reset changes nothing, so it reports its notification alone. -/
theorem test_reset_taps_idle : resetTaps (start [0xE000]) = [.phaseFlags .none] := by decide

/-- A run ends at the halted state, whatever number of ticks or steps the host allows (R223). -/
theorem test_run_ends :
    let r := tickRun 20 (start [0x4000, 0x0005, 0xE000])
    r.status = .halted ∧ r.state = tickN 4 (start [0x4000, 0x0005, 0xE000]) := by decide

/-- A run that the host stops before the HLT is not halted. -/
theorem test_run_stopped : (tickRun 3 (start [0x4000, 0x0005, 0xE000])).status = .running := by decide

/-- The same end at the instruction level. -/
theorem test_step_run :
    stepRun 5 (start [0x4000, 0x0005, 0xE000]) = .next ⟨after (start [0x4000, 0x0005, 0xE000]), .halted⟩ := by rfl

/-- The CORE is halted on both halves of the clock (R291). -/
theorem test_halted_odd_tick : halted (tickN 1 (start [0xE000])) = true := by decide

/-- An output port shows its last value, and the others none (R46). -/
theorem test_port_shows :
    portShows .c [.outPort .c 1, .pixel 0x8000 2, .outPort .c 3] = some 3 ∧ portShows .a [.outPort .c 1] = none := by
  decide

/-- Reset in the middle of an ST abandons it (R326). -/
theorem test_reset_mid : resetMachine (tickN 3 (start [0x6210, 0x0020])) = start [0x6210, 0x0020] := by decide

/-- An image load does not reload IR0 (R330): the old word is still the next instruction. -/
theorem test_load_keeps_ir0 : ((start [0xE000]).setWord 0 0x2000).ir0 = 0xE000 := by decide

/-! ## The hypotheses of the statements are met -/

/-- A program that uses every kind of instruction the witnesses need, with registers and stack in range. -/
def sample (program : List Word) : State := with23 ((start program).setSp 0x0100) 0xABCD 0x0030

theorem witness_StoreAbsolute : (sample [0x6210, 0x0020]).mem.wf = true := by decide
theorem witness_StoreIndirect : (sample [0x6413]).mem.wf = true := by decide
theorem witness_CallPushesTheReturnAddress : (sample [0x9600, 0x0010]).mem.wf = true := by decide

theorem witness_PushStoresAtSp : (sample [0xA010]).mem.wf = true ∧ Instr.push15 2 ∈ pushes 2 := by decide

theorem witness_ReservedZeroesWriteZero : Instr.zero10 1 ∈ zeroes 1 ∧ Instr.zero15 1 ∈ zeroes 1 := by decide

theorem witness_InertInstructionsOnlyAdvance : Instr.nop1_0 ∈ inertInstrs ∧ Instr.nop7_15 ∈ inertInstrs := by decide

theorem witness_LoadImmediateWritesTheExtensionWord :
    Instr.ldi 1 7 ∈ loadImmediates 1 7 ∧ Instr.ldi15 1 7 ∈ loadImmediates 1 7 := by decide

/-- Two words that differ in ignored fields only: LDI r5 with srcA, srcB 0 and with them 7. -/
theorem witness_UnusedFieldsHaveNoEffect :
    classField 0x4140 = classField 0x417F ∧ subField 0x4140 = subField 0x417F ∧ dstField 0x4140 = dstField 0x417F
      ∧ (formatOf (classField 0x4140) (subField 0x4140)).usesSrcA = false
      ∧ (formatOf (classField 0x4140) (subField 0x4140)).usesSrcB = false := by decide

/-- Each clause of the undefined pairs, at its first and last subopcode. -/
theorem witness_DecodingIsTotal :
    (∀ w ∈ ([0x2000, 0x3200, 0x3800, 0x3E00] : List Word),
      classField w = 1 ∧ subField w ≠ 10 ∧ subField w ≠ 11) ∧
    (∀ w ∈ ([0x6800, 0x7E00] : List Word), classField w = 3 ∧ 4 ≤ subField w) ∧
    (∀ w ∈ ([0x9A00, 0x9E00] : List Word), classField w = 4 ∧ 13 ≤ subField w) ∧
    (∀ w ∈ ([0xC000, 0xDE00] : List Word), classField w = 6) ∧
    (∀ w ∈ ([0xEE00, 0xFE00] : List Word), classField w = 7 ∧ 7 ≤ subField w) := by
  simp [classField, subField, bitField]

theorem witness_FlagsReachTheBundleOnlyThroughJumps : ¬(classField 0x9600 = 4 ∧ subField 0x9600 ≤ 10) := by decide

theorem witness_EnabledAluFlags : (2 : BitVec 4) ≠ 0 ∧ (2 : BitVec 4) ≠ 1 ∧ (2 : BitVec 4) ≠ 10 := by decide

theorem witness_DivisionLaw : (1 : Word) ≠ 0 ∧ (0xFFFF : Word) ≠ 0 ∧ (0 : Word) = 0 := by decide

theorem witness_HaltChangesNothing : Latched (start [0xE000]) := ⟨by decide, by decide, by decide⟩

theorem witness_InReadsThePort : quiescent (start [0xE4C0]) = true ∧ (start [0xE4C0]).ir0 = firstWord (.inB 3) := by
  decide

theorem witness_StepRunsTheDecodedInstruction :
    let s := sample [0x6210, 0x0020]
    quiescent s = true ∧ s.ir0 = s.memRead s.pc ∧
      decode [s.memRead s.pc, s.memRead (s.pc + 1)] = .instr (.st 2 0x20) [] := by decide

/-- The same for a one-word instruction, where the next word is left over. -/
theorem witness_StepRunsTheDecodedInstruction_one_word :
    let s := sample [0x6413, 0xE000]
    quiescent s = true ∧ s.ir0 = s.memRead s.pc ∧
      decode [s.memRead s.pc, s.memRead (s.pc + 1)] = .instr (.str 2 3) [0xE000] := by decide

theorem witness_PlacedInstructionRuns :
    (sample [0xE000]).mem.wf = true ∧ decodeTableWord 32 0x00206210 = some (.st 2 0x20)
      ∧ decodeTableWord 16 0x6210 = some (.st 2 0) := by decide

theorem witness_OnlyCompareWritesFlags :
    let s := sample [0x3413]
    exec (.cmp 2 3) s = .next (after s) ∧ (after s).flags ≠ s.flags := ⟨rfl, by decide⟩

theorem witness_OnlyStackInstructionsMoveSp :
    (let s := sample [0xA010]
     exec (.push 2) s = .next (after s) ∧ (after s).sp ≠ s.sp) ∧
    (let s := sample [0x9800]
     exec .rts s = .next (after s) ∧ (after s).sp ≠ s.sp) := ⟨⟨rfl, by decide⟩, ⟨rfl, by decide⟩⟩

theorem witness_OnlyStoresChangeMemory :
    let s := sample [0x6210, 0x0020]
    exec (.st 2 0x20) s = .next (after s) ∧ storeAddress (.st 2 0x20) s ≠ some 0x21 := ⟨rfl, by decide⟩

/-- Two states that differ in IR1, the latches and the clock only. -/
theorem witness_LatchesAreInvisibleToPrograms :
    let s := sample [0x6210, 0x0020]
    SameArchitecture s ((s.latchIr1 0x1111).setClock true s.phases) ∧ s ≠ (s.latchIr1 0x1111).setClock true s.phases :=
  ⟨⟨rfl, rfl, rfl, rfl, rfl, rfl, rfl⟩, by decide⟩

/-- The invariant holds of a running machine. -/
theorem sample_inv : Inv (sample [0x6210, 0x0020]) := ⟨by decide, by decide, ⟨by decide, by decide, by decide⟩⟩

theorem witness_EveryStepKeepsTheInvariant :
    Inv (sample [0x6210, 0x0020]) ∧ step (sample [0x6210, 0x0020]) = .next (after (sample [0x6210, 0x0020])) :=
  ⟨sample_inv, rfl⟩

theorem witness_HostRunsKeepMemoryCanonical : (sample [0x6210, 0x0020]).mem.wf = true := by decide

/-- The phase invariant in the middle of an ST, with ADDRJ and ADDRB set. -/
theorem witness_TicksKeepThePhaseInvariant :
    let s := tickN 4 (sample [0x6210, 0x0020])
    PhaseInv s ∧ s.phases.addrB = true := ⟨⟨by decide, by decide, by decide, by decide, by decide, by decide, by decide, by decide⟩, by decide⟩

theorem witness_TicksKeepThePhaseInvariant_halted :
    PhaseInv (start [0xE000]) ∧ halted (start [0xE000]) = true :=
  ⟨⟨by decide, by decide, by decide, by decide, by decide, by decide, by decide, by decide⟩, by decide⟩

theorem witness_TicksRefineTheStep : quiescent (sample [0x6210, 0x0020]) = true := by decide

theorem witness_TickEventsAreTheSteps :
    let s := sample [0xE810]
    quiescent s = true ∧ s.ir0 = s.memRead s.pc ∧ step s = .next (after s) := ⟨by decide, by decide, rfl⟩

theorem witness_InstructionLengths :
    (let s := sample [0x6210, 0x0020]
     quiescent s = true ∧ halted s = false ∧ instrTicks s.ir0 = 6) ∧
    (let s := sample [0xE000]
     quiescent s = true ∧ halted s = true ∧ s.ir0 = s.memRead s.pc) := by decide

theorem witness_StepInMidInstructionFinishesIt :
    let s := sample [0x6210, 0x0020]
    quiescent s = true ∧ halted s = false ∧ 0 < 5 ∧ 5 < instrTicks s.ir0 := by decide

theorem witness_HaltedTicksOnlyToggleTheClock : Inv (start [0xE000]) ∧ halted (start [0xE000]) = true :=
  ⟨⟨by decide, by decide, ⟨by decide, by decide, by decide⟩⟩, by decide⟩

theorem witness_LoadImmediateWritesOnTheSecondTick :
    quiescent (start [0x4000, 0x0005]) = true ∧ classField (start [0x4000, 0x0005]).ir0 = 2 := by decide

/-- One state for each clause: ST, STR, PUSH and JSR. -/
theorem witness_WhenStoresCommit :
    (let s := sample [0x6210, 0x0020]
     quiescent s = true ∧ classField s.ir0 = 3 ∧ subField s.ir0 = 1) ∧
    (let s := sample [0x6413]
     quiescent s = true ∧ classField s.ir0 = 3 ∧ subField s.ir0 = 2) ∧
    (let s := sample [0xA010]
     quiescent s = true ∧ classField s.ir0 = 5 ∧ subField s.ir0 ≠ 1) ∧
    (let s := sample [0x9600, 0x0010]
     quiescent s = true ∧ classField s.ir0 = 4 ∧ subField s.ir0 = 11) := by decide

theorem witness_StoreThenLoadReturnsTheWord :
    let s := sample [0x6210, 0x0020, 0x6040, 0x0020]
    s.mem.wf = true ∧ exec (.st 2 0x20) s = .next (after s) ∧
      exec (.ld 1 0x20) (after s) = .next (after (after s)) := ⟨by decide, rfl, rfl⟩

theorem witness_PopUndoesPush :
    let s := sample [0xA010, 0xA240]
    s.mem.wf = true ∧ exec (.push 2) s = .next (after s) ∧ exec (.pop 1) (after s) = .next (after (after s)) :=
  ⟨by decide, rfl, rfl⟩

theorem witness_ReturnUndoesCall :
    let s := sample [0x9600, 0x0002, 0x9800]
    s.mem.wf = true ∧ exec (.jsr 2) s = .next (after s) ∧ exec .rts (after s) = .next (after (after s)) :=
  ⟨by decide, rfl, rfl⟩

/-- One state for each clause: the store goes to the word that is fetched next. -/
theorem witness_NextFetchSeesTheStore :
    (let s := sample [0x6210, 0x0002]
     s.mem.wf = true ∧ exec (.st 2 (s.pc + 2)) s = .next (after s)) ∧
    (let s := (sample [0x6413]).setReg 3 1
     s.mem.wf = true ∧ s.getReg 3 = s.pc + 1 ∧ exec (.str 2 3) s = .next (after s)) ∧
    (let s := (sample [0xA010]).setSp 1
     s.mem.wf = true ∧ s.sp = s.pc + 1 ∧ exec (.push 2) s = .next (after s)) ∧
    (let s := (sample [0x9600, 0x0100])
     s.mem.wf = true ∧ s.sp = 0x0100 ∧ exec (.jsr 0x0100) s = .next (after s)) :=
  ⟨⟨by decide, rfl⟩, ⟨by decide, by decide, rfl⟩, ⟨by decide, by decide, rfl⟩, ⟨by decide, by decide, rfl⟩⟩

/-- The framebuffer's first and last word, the words just outside, and the pixel (0, 0) of any width. -/
theorem witness_FramebufferWritesEmitOnePixel :
    (0x8000 ≤ (0x8000 : Word).toNat ∧ (0x8000 : Word).toNat ≤ 0xBFFF) ∧
    (0x8000 ≤ (0xBFFF : Word).toNat ∧ (0xBFFF : Word).toNat ≤ 0xBFFF) ∧
    (0x7FFF : Word).toNat < 0x8000 ∧ 0xBFFF < (0xC000 : Word).toNat ∧
    0 < Config.fbWidth ∧ 0x8000 + (0 * Config.fbWidth + 0) ≤ 0xBFFF := by
  refine ⟨by decide, by decide, by decide, by decide, Nat.succ_pos _, ?_⟩
  simp

/-- A list of `n` numeric tokens: its length, its tokens, and that all are numbers. -/
theorem replicate_image (n : Nat) (v : Word) :
    (List.replicate n (ImageToken.word v)).length = n ∧ imageNumericOk (List.replicate n (.word v)) = true
      ∧ ∀ a < n, (List.replicate n (ImageToken.word v))[a]? = some (.word v) := by
  refine ⟨List.length_replicate, ?_, fun a h => by simp [h]⟩
  simp [imageNumericOk, ImageToken.isNumeric]

/-- An image of 65536 words, and its first and last token. -/
theorem witness_ImageRoundTrip :
    let ts := List.replicate addressSpace (ImageToken.word 7)
    imageWellFormed ts = true ∧ ts[0]? = some (.word 7) ∧ ts[65535]? = some (.word 7) := by
  obtain ⟨hl, hn, ht⟩ := replicate_image addressSpace 7
  refine ⟨?_, ht 0 (by decide), ht 65535 (by decide)⟩
  rw [imageWellFormed, imageSizeOk, hl, hn]
  rfl

theorem witness_MalformedImageIsRejected :
    ([] : List ImageToken).length ≠ 65536 ∧ ImageToken.nonNumeric ∈ [ImageToken.nonNumeric] := by decide

/-- The last legal address and the first illegal one. -/
theorem witness_HostAccess :
    65536 ≤ 65536 ∧ 65535 < 65536 ∧ (sample [0xE000]).mem.wf = true ∧ (0 : Nat) ≠ 65535 := by decide

theorem witness_RunFrameTicks : 0 < 1 := by decide

end Sys2Proof.Tests
end

/-! SUPPORT and PROOFS. The family of spec/10_state.md: what an instruction can do to the state, said once for all
128 instructions; which of them writes FLAGS (R28) and SP (R26); that the latches stay out of what a program sees
(R34); and that no host action breaks the memory's canonical form (R42, R43). -/

/-! ## The effects of the 128 instructions

The meanings share seventeen bodies, one for each effect below. A proof about every instruction splits on the
effect instead of on the instruction. -/

namespace Sys2Proof.Machine

/-- What an instruction does, with its operands: one constructor for each body that the meanings share. -/
inductive Effect where
  | alu (op : BitVec 4) (dst srcA srcB : Reg)
  | zero (dst : Reg)
  | compare (srcA srcB : Reg)
  | immediate (dst : Reg) (ext : Word)
  | load (dst : Reg) (ext : Word)
  | store (srcA : Reg) (ext : Word)
  | storeIndirect (srcA srcB : Reg)
  | loadIndirect (dst srcB : Reg)
  | jump (sub : Nat) (ext : Word)
  | call (ext : Word)
  | ret
  | push (srcA : Reg)
  | pop (dst : Reg)
  | inert
  | halt
  | input (dst : Reg) (p : Port)
  | output (srcA : Reg) (p : Port)

/-- The state an effect leaves. -/
def Effect.run (f : Effect) (s : State) : State :=
  match f with
  | .alu op d a b => aluToReg op d a b s
  | .zero d => zeroToReg d s
  | .compare a b => (s.setFlags (compareFlags (s.getReg a) (s.getReg b))).endOneWord
  | .immediate d x => loadImmediate d x s
  | .load d x => (s.setReg d (s.memRead (effectiveAddress (.absolute x) s))).endTwoWords x
  | .store a x => (s.memWrite (effectiveAddress (.absolute x) s) (s.getReg a)).endTwoWords x
  | .storeIndirect a b => (s.memWrite (effectiveAddress (.indirect b) s) (s.getReg a)).endOneWord
  | .loadIndirect d b => (s.setReg d (s.memRead (effectiveAddress (.indirect b) s))).endOneWord
  | .jump sub x => jumpIf (condition sub s.flags) x s
  | .call x => (s.push (s.pc + 2)).endJump x x
  | .ret => s.drop.finishAt s.top
  | .push a => pushReg a s
  | .pop d => (s.drop.setReg d s.top).endOneWord
  | .inert => execInert s
  | .halt => s.fetchNext
  | .input d p => (s.input d p).endOneWord
  | .output a p => (s.output p (s.getReg a)).endOneWord

/-- The effect that the fields of an encoding select: the opcode table's rows by class and subopcode
(spec/30_encoding.md R95). -/
def effectOf (e : Encoding) : Effect :=
  match e.cls with
  | 0 => if e.sub ≤ 9 then .alu (BitVec.ofNat 4 e.sub) e.dst e.srcA e.srcB else .zero e.dst
  | 1 =>
    if e.sub = 10 then .compare e.srcA e.srcB
    else if e.sub = 11 then .alu 11 e.dst e.srcA e.srcA
    else .inert
  | 2 => .immediate e.dst (e.ext.getD 0)
  | 3 =>
    if e.sub = 0 then .load e.dst (e.ext.getD 0)
    else if e.sub = 1 then .store e.srcA (e.ext.getD 0)
    else if e.sub = 2 then .storeIndirect e.srcA e.srcB
    else if e.sub = 3 then .loadIndirect e.dst e.srcB
    else .inert
  | 4 =>
    if e.sub ≤ 10 then .jump e.sub (e.ext.getD 0)
    else if e.sub = 11 then .call (e.ext.getD 0)
    else if e.sub = 12 then .ret
    else .inert
  | 5 => if e.sub = 1 then .pop e.dst else .push e.srcA
  | 7 =>
    if e.sub = 0 then .halt
    else if e.sub ≤ 3 then .input e.dst (portOf (e.sub - 1))
    else if e.sub ≤ 6 then .output e.srcA (portOf (e.sub - 4))
    else .inert
  | _ => .inert

/-- Every instruction completes, with the effect its encoding selects. -/
theorem exec_eq_effect (i : Instr) (s : State) : exec i s = .next ((effectOf (encodingOf i)).run s) := by
  cases i <;> rfl

theorem eq_run_of_exec {i : Instr} {s t : State} (h : exec i s = .next t) : t = (effectOf (encodingOf i)).run s := by
  rw [exec_eq_effect] at h
  exact (Host.Outcome.next.inj h).symm

/-! ## What an effect does to FLAGS, to SP and to the events -/

/-- FLAGS after an effect. -/
def Effect.flagsAfter (f : Effect) (s : State) : BitVec 4 :=
  match f with
  | .compare a b => compareFlags (s.getReg a) (s.getReg b)
  | _ => s.flags

@[simp] theorem Effect.run_flags (f : Effect) (s : State) : (f.run s).flags = f.flagsAfter s := by
  cases f <;> simp [Effect.run, Effect.flagsAfter, aluToReg, zeroToReg, loadImmediate, jumpIf, pushReg, execInert]

/-- SP after an effect (spec/44_stack.md R213). -/
def Effect.spAfter (f : Effect) (sp : Word) : Word :=
  match f with
  | .call _ => sp - 1
  | .push _ => sp - 1
  | .ret => sp + 1
  | .pop _ => sp + 1
  | _ => sp

@[simp] theorem Effect.run_sp (f : Effect) (s : State) : (f.run s).sp = f.spAfter s.sp := by
  cases f <;> simp [Effect.run, Effect.spAfter, aluToReg, zeroToReg, loadImmediate, jumpIf, pushReg, execInert]

/-- The events an effect emits: a store's pixel (spec/20_memory.md R70) and an OUT's word (R46). -/
def Effect.emits (f : Effect) (s : State) : List Event :=
  match f with
  | .store a x => pixelEvents x (s.getReg a)
  | .storeIndirect a b => pixelEvents (s.getReg b) (s.getReg a)
  | .call _ => pixelEvents s.sp (s.pc + 2)
  | .push a => pixelEvents s.sp (s.getReg a)
  | .output a p => [.outPort p (s.getReg a)]
  | _ => []

@[simp] theorem Effect.run_events (f : Effect) (s : State) : (f.run s).events = s.events ++ f.emits s := by
  cases f <;> simp [Effect.run, Effect.emits, aluToReg, zeroToReg, loadImmediate, jumpIf, pushReg, execInert,
    effectiveAddress]

/-! ## Which encodings write FLAGS and SP -/

/-- Only class 1 subopcode 10 selects a compare. -/
theorem flagsAfter_effectOf (e : Encoding) (s : State) (h : ¬(e.cls = 1 ∧ e.sub = 10)) :
    (effectOf e).flagsAfter s = s.flags := by
  unfold effectOf
  split
  case h_2 hcls =>
    rw [if_neg fun hsub => h ⟨hcls, hsub⟩]
    split <;> rfl
  all_goals repeat' split
  all_goals rfl

/-- Class 1 subopcode 10 is CMP alone. -/
theorem eq_cmp_of_encodingOf {i : Instr} (h : (encodingOf i).cls = 1 ∧ (encodingOf i).sub = 10) :
    ∃ a b, i = .cmp a b := by
  cases i
  case cmp a b => exact ⟨a, b, rfl⟩
  all_goals simp [encodingOf] at h

/-- An encoding outside the classes of jumps and of the stack keeps SP. -/
theorem spAfter_effectOf_of_cls (e : Encoding) (sp : Word) (h4 : e.cls ≠ 4) (h5 : e.cls ≠ 5) :
    (effectOf e).spAfter sp = sp := by
  unfold effectOf
  split
  case h_5 hcls => exact absurd hcls h4
  case h_6 hcls => exact absurd hcls h5
  all_goals repeat' split
  all_goals rfl

/-- JSR and PUSH take SP one word down, RTS and POP one word up, and every other encoding keeps it. -/
theorem spAfter_effectOf (e : Encoding) (sp : Word) :
    (effectOf e).spAfter sp =
      if e.cls = 4 ∧ e.sub = 11 ∨ e.cls = 5 ∧ e.sub ≠ 1 then sp - 1
      else if e.cls = 4 ∧ e.sub = 12 ∨ e.cls = 5 ∧ e.sub = 1 then sp + 1
      else sp := by
  by_cases h4 : e.cls = 4
  · by_cases h11 : e.sub = 11
    · simp [effectOf, h4, h11, Effect.spAfter]
    by_cases h12 : e.sub = 12
    · simp [effectOf, h4, h12, Effect.spAfter]
    · by_cases h10 : e.sub ≤ 10 <;> simp [effectOf, h4, h10, h11, h12, Effect.spAfter]
  by_cases h5 : e.cls = 5
  · by_cases h1 : e.sub = 1 <;> simp [effectOf, h5, h1, Effect.spAfter]
  · simp [spAfter_effectOf_of_cls e sp h4 h5, h4, h5]

end Sys2Proof.Machine

/-! ## What a program sees (R34) -/

namespace Sys2Proof.Safety

open Sys2Proof.Machine

namespace SameArchitecture

variable {s t : State}

/-! Reading: what an instruction reads is the same in both states. -/

theorem getReg (h : SameArchitecture s t) (r : Reg) : s.getReg r = t.getReg r := by
  simp only [State.getReg, h.regs]

theorem memRead (h : SameArchitecture s t) (a : Word) : s.memRead a = t.memRead a := by
  simp only [State.memRead, h.mem]

theorem portValue (h : SameArchitecture s t) (p : Port) : s.portValue p = t.portValue p := by
  simp only [State.portValue, h.inPins, h.inDraws]

theorem effectiveAddress (h : SameArchitecture s t) (m : AddrMode) :
    effectiveAddress m s = effectiveAddress m t := by
  cases m with
  | absolute x => rfl
  | indirect b => exact h.getReg b
  | pushSlot => exact h.sp
  | popSlot => exact congrArg (· + 1) h.sp

theorem top (h : SameArchitecture s t) : s.top = t.top := by
  simp only [State.top, h.effectiveAddress, h.memRead]

/-! Writing: the same operation on both states leaves states that agree again. -/

theorem setReg (h : SameArchitecture s t) (d : Reg) {v w : Word} (e : v = w) :
    SameArchitecture (s.setReg d v) (t.setReg d w) :=
  { h with regs := by simp only [State.setReg_regs, h.regs, e] }

theorem setSp (h : SameArchitecture s t) {v w : Word} (e : v = w) : SameArchitecture (s.setSp v) (t.setSp w) :=
  { h with sp := e }

theorem setFlags (h : SameArchitecture s t) {f g : BitVec 4} (e : f = g) :
    SameArchitecture (s.setFlags f) (t.setFlags g) :=
  { h with flags := e }

theorem memWrite (h : SameArchitecture s t) {a b v w : Word} (ea : a = b) (ev : v = w) :
    SameArchitecture (s.memWrite a v) (t.memWrite b w) :=
  { h with mem := by simp only [State.memWrite_mem, h.mem, ea, ev] }

theorem push (h : SameArchitecture s t) {v w : Word} (e : v = w) : SameArchitecture (s.push v) (t.push w) :=
  (h.memWrite h.sp e).setSp (congrArg (· - 1) h.sp)

theorem drop (h : SameArchitecture s t) : SameArchitecture s.drop t.drop :=
  h.setSp (congrArg (· + 1) h.sp)

theorem input (h : SameArchitecture s t) (d : Reg) (p : Port) : SameArchitecture (s.input d p) (t.input d p) :=
  have sampled : SameArchitecture (s.afterSample p) (t.afterSample p) :=
    { regs := by simp [h.regs], pc := by simp [h.pc], sp := by simp [h.sp], flags := by simp [h.flags],
      mem := by simp [h.mem], inPins := by simp [h.inPins],
      inDraws := by simp only [State.afterSample_inDraws, h.inPins, h.inDraws] }
  sampled.setReg d (h.portValue p)

theorem output (h : SameArchitecture s t) (p : Port) (v w : Word) :
    SameArchitecture (s.output p v) (t.output p w) := { h with }

/-! Ending: IR0, IR1, RAMADDR and the holding pair move, and PC goes where both states send it. -/

theorem fetchNext (h : SameArchitecture s t) : SameArchitecture s.fetchNext t.fetchNext := { h with }

theorem finishAt (h : SameArchitecture s t) {x y : Word} (e : x = y) :
    SameArchitecture (s.finishAt x) (t.finishAt y) := { h with pc := e }

theorem endOneWord (h : SameArchitecture s t) : SameArchitecture s.endOneWord t.endOneWord :=
  h.finishAt (congrArg (· + 1) h.pc)

theorem endJump (h : SameArchitecture s t) (x : Word) {a b : Word} (e : a = b) :
    SameArchitecture (s.endJump x a) (t.endJump x b) := { h with pc := e }

theorem endTwoWords (h : SameArchitecture s t) (x : Word) :
    SameArchitecture (s.endTwoWords x) (t.endTwoWords x) :=
  h.endJump x (congrArg (· + 2) h.pc)

/-- Every effect leaves states that agree, from states that agree. -/
theorem run (h : SameArchitecture s t) (f : Effect) : SameArchitecture (f.run s) (f.run t) := by
  cases f with
  | alu op d a b => exact (h.setReg d (by rw [h.getReg a, h.getReg b])).endOneWord
  | zero d => exact (h.setReg d rfl).endOneWord
  | compare a b => exact (h.setFlags (by rw [h.getReg a, h.getReg b])).endOneWord
  | immediate d x => exact (h.setReg d rfl).endTwoWords x
  | load d x => exact (h.setReg d (h.memRead x)).endTwoWords x
  | store a x => exact (h.memWrite (h.effectiveAddress _) (h.getReg a)).endTwoWords x
  | storeIndirect a b => exact (h.memWrite (h.effectiveAddress _) (h.getReg a)).endOneWord
  | loadIndirect d b => exact (h.setReg d (by rw [h.effectiveAddress, h.memRead])).endOneWord
  | jump sub x => exact h.endJump x (by rw [h.flags, h.pc])
  | call x => exact (h.push (congrArg (· + 2) h.pc)).endJump x rfl
  | ret => exact h.drop.finishAt h.top
  | push a => exact (h.push (h.getReg a)).endOneWord
  | pop d => exact (h.drop.setReg d h.top).endOneWord
  | inert => exact h.endOneWord
  | halt => exact h.fetchNext
  | input d p => exact (h.input d p).endOneWord
  | output a p => exact (h.output p _ _).endOneWord

/-- Every effect emits the same events, from states that agree. -/
theorem emits (h : SameArchitecture s t) (f : Effect) : f.emits s = f.emits t := by
  cases f <;> simp only [Effect.emits, h.getReg, h.pc, h.sp]

end SameArchitecture

end Sys2Proof.Safety

/-! ## The canonical form of the memory, under the ticks and the host (R42, D23) -/

namespace Sys2Proof.Machine

/-- A tick writes memory in its sixth step alone. -/
theorem wf_tick {s : State} (h : s.mem.wf = true) : (tick s).mem.wf = true := by
  rw [tick, tickWith_mem]
  exact wf_ramWriteStep (by rwa [registerStep_mem]) _ _ _

theorem wf_tickN (n : Nat) {s : State} (h : s.mem.wf = true) : (tickN n s).mem.wf = true := by
  induction n generalizing s with
  | zero => exact h
  | succ k ih => exact ih (wf_tick h)

/-- A well-formed image has exactly as many tokens as there are addresses. -/
theorem length_of_imageWellFormed {ts : List ImageToken} (h : imageWellFormed ts = true) :
    ts.length = addressSpace := by
  rw [imageWellFormed, Bool.and_eq_true] at h
  exact eq_of_beq h.1

theorem wf_loadImage (ts : List ImageToken) {s : State} (h : s.mem.wf = true) :
    (loadImage s ts).state.mem.wf = true := by
  unfold loadImage
  split_ifs with hts
  · exact Memory.wfFrom_ofImage 0 ts (by rw [Nat.zero_add, length_of_imageWellFormed hts])
  · exact h

theorem wf_hostWrite (addr : Nat) (v : Word) {s : State} (h : s.mem.wf = true) :
    (hostWrite s addr v).state.mem.wf = true := by
  unfold hostWrite
  split_ifs
  · exact State.wf_setWord h _ _
  · exact h

theorem wf_hostAct (a : HostAction) {s : State} (h : s.mem.wf = true) : (hostAct a s).state.mem.wf = true := by
  cases a with
  | tick => exact wf_tick h
  | runFrame f => exact wf_tickN (frameTicks f) h
  | reset => exact h
  | loadImage ts => exact wf_loadImage ts h
  | write addr v => exact wf_hostWrite addr v h
  | setInputPort p v => exact h
  | drainEvents => exact h

end Sys2Proof.Machine

/-! ## The obligations -/

namespace Sys2Proof.Proofs

open Sys2Proof.Machine Sys2Proof.Safety

/-- Settles O41, by induction on the actions: each keeps the canonical form. -/
theorem hostRunsKeepMemoryCanonical : Obligations.HostRunsKeepMemoryCanonical := by
  unfold Obligations.HostRunsKeepMemoryCanonical
  intro actions
  induction actions with
  | nil => exact fun s h => h
  | cons a rest ih => exact fun s h => ih (hostAct a s).state (wf_hostAct a h)

/-- Settles O35: an encoding that changes FLAGS is class 1 subopcode 10, which is CMP. -/
theorem onlyCompareWritesFlags : Obligations.OnlyCompareWritesFlags := by
  unfold Obligations.OnlyCompareWritesFlags
  intro i s t hexec hchanged
  rw [eq_run_of_exec hexec, Effect.run_flags] at hchanged
  apply eq_cmp_of_encodingOf
  by_contra hcode
  exact hchanged (flagsAfter_effectOf _ s hcode)

/-- Settles O36: the three cases of what an encoding does to SP, of which the last changes nothing. -/
theorem onlyStackInstructionsMoveSp : Obligations.OnlyStackInstructionsMoveSp := by
  unfold Obligations.OnlyStackInstructionsMoveSp
  intro i s t hexec hmoved
  rw [eq_run_of_exec hexec, Effect.run_sp, spAfter_effectOf] at hmoved ⊢
  split_ifs at hmoved ⊢ with hdown hup
  · exact .inl ⟨hdown, rfl⟩
  · exact .inr ⟨hup, rfl⟩
  · exact absurd rfl hmoved

/-- Settles O38: both runs have the effect of the one encoding, which reads only what the states agree on. -/
theorem latchesAreInvisibleToPrograms : Obligations.LatchesAreInvisibleToPrograms := by
  unfold Obligations.LatchesAreInvisibleToPrograms
  intro i s s' h
  refine ⟨_, _, (effectOf (encodingOf i)).emits s, exec_eq_effect i s, exec_eq_effect i s', h.run _,
    Effect.run_events _ s, ?_⟩
  rw [h.emits]
  exact Effect.run_events _ s'

end Sys2Proof.Proofs

/-! SUPPORT and PROOFS. The family of spec/20_memory.md: the one word an instruction may store (R62, R69) and that
its own fetch sees it (R79); the framebuffer's pixel events (R70, R71); image load (R72, R74) and the host's
single-word access (R73). -/

/-! ## What an effect stores, and what it fetches -/

namespace Sys2Proof.Machine

/-- The address and the word an effect stores, if it stores (R69). -/
def Effect.stores (f : Effect) (s : State) : Option (Word × Word) :=
  match f with
  | .store a x => some (x, s.getReg a)
  | .storeIndirect a b => some (s.getReg b, s.getReg a)
  | .call _ => some (s.sp, s.pc + 2)
  | .push a => some (s.sp, s.getReg a)
  | _ => none

/-- The memory after an effect: one word written where it stores, and the same memory where it does not. -/
theorem Effect.run_mem (f : Effect) (s : State) :
    (f.run s).mem = (f.stores s).elim s.mem fun w => s.mem.write w.1.toNat w.2 := by
  cases f with
  | input d p => simp [Effect.run, Effect.stores]
  | _ => rfl

theorem Effect.run_memRead_of_stores {f : Effect} {s : State} {a v : Word} (hm : s.mem.wf = true)
    (h : f.stores s = some (a, v)) : (f.run s).memRead a = v := by
  rw [State.memRead, Effect.run_mem, h]
  exact Memory.read_write_self hm a.toNat v

theorem Effect.run_memRead_of_not_stores {f : Effect} {s : State} {a : Word}
    (h : (f.stores s).map Prod.fst ≠ some a) : (f.run s).memRead a = s.memRead a := by
  rw [State.memRead, Effect.run_mem]
  cases hw : f.stores s with
  | none => rfl
  | some w =>
    have hne : a ≠ w.1 := fun e => h (by rw [hw, e]; rfl)
    exact State.memRead_setWord_ne s w.2 hne

/-- Every effect ends by fetching the word at its new PC from the memory it leaves (R79). -/
theorem Effect.run_ir0 (f : Effect) (s : State) : (f.run s).ir0 = (f.run s).memRead (f.run s).pc := by
  cases f <;> rfl

/-- An effect that stores at its own new PC fetches the word stored. -/
theorem Effect.run_ir0_of_stores_at_pc {f : Effect} {s : State} {v : Word} (hm : s.mem.wf = true)
    (h : f.stores s = some ((f.run s).pc, v)) : (f.run s).ir0 = v := by
  rw [Effect.run_ir0, Effect.run_memRead_of_stores hm h]

end Sys2Proof.Machine

namespace Sys2Proof.Safety

open Sys2Proof.Machine

/-- R69's address of an instruction is where its effect stores. -/
theorem storeAddress_eq_stores (i : Instr) (s : State) :
    storeAddress i s = ((effectOf (encodingOf i)).stores s).map Prod.fst := by
  cases i <;> rfl

end Sys2Proof.Safety

/-! ## Numbers as words -/

namespace Sys2Proof

/-- A number inside the address space does not wrap as a word. -/
theorem toNat_ofNat_of_lt {n : Nat} (h : n < addressSpace) : (BitVec.ofNat 16 n).toNat = n := by
  rw [BitVec.toNat_ofNat]
  exact Nat.mod_eq_of_lt h

end Sys2Proof

/-! ## The framebuffer (R70, R71) -/

namespace Sys2Proof

theorem Config.fbWidth_pos : 0 < Config.fbWidth := Nat.succ_pos _

theorem bitField_lt (w : Word) (lo width : Nat) : bitField w lo width < 2 ^ width :=
  Nat.mod_lt _ (Nat.two_pow_pos width)

namespace Machine

theorem inFramebuffer_iff (a : Word) : inFramebuffer a = true ↔ 0x8000 ≤ a.toNat ∧ a.toNat ≤ 0xBFFF := by
  simp [inFramebuffer]

theorem pixelEvents_of_inFramebuffer {a : Word} (v : Word) (h : inFramebuffer a = true) :
    pixelEvents a v = [.pixel a v] :=
  if_pos h

theorem pixelEvents_of_not_inFramebuffer {a : Word} (v : Word) (h : ¬inFramebuffer a = true) :
    pixelEvents a v = [] :=
  if_neg h

/-- The address of the framebuffer word at offset `k` is inside the address space. -/
theorem toNat_framebufferWord {k : Nat} (h : 0x8000 + k ≤ 0xBFFF) :
    (BitVec.ofNat 16 (0x8000 + k)).toNat = 0x8000 + k :=
  toNat_ofNat_of_lt (h.trans_lt (by decide))

theorem pixelX_framebufferWord {k : Nat} (h : 0x8000 + k ≤ 0xBFFF) :
    pixelX (BitVec.ofNat 16 (0x8000 + k)) = k % Config.fbWidth := by
  rw [pixelX, toNat_framebufferWord h, Nat.add_sub_cancel_left]

theorem pixelY_framebufferWord {k : Nat} (h : 0x8000 + k ≤ 0xBFFF) :
    pixelY (BitVec.ofNat 16 (0x8000 + k)) = k / Config.fbWidth := by
  rw [pixelY, toNat_framebufferWord h, Nat.add_sub_cancel_left]

/-- Dividing a word by 32 leaves the blue field, and dividing the quotient by 64 the green and the red one. -/
theorem toNat_eq_pixelFields (v : Word) : v.toNat = pixelRed v * 2048 + pixelGreen v * 32 + pixelBlue v := by
  have hv := v.isLt
  simp only [pixelRed, pixelGreen, pixelBlue, bitField]
  omega

end Machine

end Sys2Proof

/-! ## The host's access to one word (R73) -/

namespace Sys2Proof.Machine

theorem State.memRead_ofNat (s : State) {a : Nat} (h : a < addressSpace) :
    s.memRead (BitVec.ofNat 16 a) = s.mem.read a := by
  rw [State.memRead, toNat_ofNat_of_lt h]

theorem hostRead_of_lt (s : State) {a : Nat} (h : a < addressSpace) :
    hostRead s a = .ok (s.memRead (BitVec.ofNat 16 a)) :=
  if_pos h

theorem hostRead_of_le (s : State) {a : Nat} (h : addressSpace ≤ a) : hostRead s a = .error (.invalidAddress a) :=
  if_neg (Nat.not_lt.mpr h)

theorem hostWrite_of_lt (s : State) {a : Nat} (v : Word) (h : a < addressSpace) :
    hostWrite s a v = ⟨s.setWord (BitVec.ofNat 16 a) v, none⟩ :=
  if_pos h

theorem hostWrite_of_le (s : State) {a : Nat} (v : Word) (h : addressSpace ≤ a) :
    hostWrite s a v = ⟨s, some (.invalidAddress a)⟩ :=
  if_neg (Nat.not_lt.mpr h)

theorem hostRead_hostWrite_self {s : State} {a : Nat} (v : Word) (hm : s.mem.wf = true) (h : a < addressSpace) :
    hostRead (hostWrite s a v).state a = .ok v := by
  rw [hostRead_of_lt _ h, hostWrite_of_lt s v h]
  exact congrArg _ (State.memRead_setWord_self hm _ v)

theorem hostRead_hostWrite_ne (s : State) {a b : Nat} (v : Word) (h : b ≠ a) :
    hostRead (hostWrite s a v).state b = hostRead s b := by
  rcases Nat.lt_or_ge a addressSpace with ha | ha
  · rcases Nat.lt_or_ge b addressSpace with hb | hb
    · rw [hostRead_of_lt _ hb, hostRead_of_lt s hb, State.memRead_ofNat _ hb, State.memRead_ofNat s hb,
        hostWrite_of_lt s v ha]
      exact congrArg _ (Memory.read_write_ne s.mem v (by rwa [toNat_ofNat_of_lt ha]))
    · rw [hostRead_of_le _ hb, hostRead_of_le s hb]
  · rw [hostWrite_of_le s v ha]

end Sys2Proof.Machine

/-! ## Image load (R72, R74) -/

namespace Sys2Proof

theorem ImageToken.isNumeric_iff (t : ImageToken) : t.isNumeric = true ↔ t ≠ .nonNumeric := by
  cases t <;> simp [ImageToken.isNumeric]

theorem imageNumericOk_iff (ts : List ImageToken) : imageNumericOk ts = true ↔ ImageToken.nonNumeric ∉ ts := by
  simp only [imageNumericOk, List.all_eq_true, ImageToken.isNumeric_iff]
  exact ⟨fun h hmem => h _ hmem rfl, fun h t ht e => h (e ▸ ht)⟩

theorem imageWellFormed_iff (ts : List ImageToken) :
    imageWellFormed ts = true ↔ ts.length = addressSpace ∧ ImageToken.nonNumeric ∉ ts := by
  rw [imageWellFormed, Bool.and_eq_true, imageNumericOk_iff, imageSizeOk, beq_iff_eq]

namespace Machine

theorem loadImage_of_wellFormed (s : State) {ts : List ImageToken} (h : imageWellFormed ts = true) :
    loadImage s ts = ⟨{ s with mem := Memory.ofImage 0 ts }, none⟩ :=
  if_pos h

theorem loadImage_of_not_wellFormed (s : State) {ts : List ImageToken} (h : ¬imageWellFormed ts = true) :
    loadImage s ts = ⟨s, some .malformedImage⟩ :=
  if_neg h

/-- Above its first address an image is the image of its other tokens. -/
theorem Memory.read_ofImage_cons_of_lt (t : ImageToken) (ts : List ImageToken) {a b : Nat} (h : a < b) :
    (Memory.ofImage a (t :: ts)).read b = (Memory.ofImage (a + 1) ts).read b := by
  cases t with
  | nonNumeric => rfl
  | word v =>
    rw [Memory.ofImage]
    split_ifs
    · rfl
    · rw [Memory.read, if_neg (Nat.ne_of_lt h)]

/-- At its first address an image holds its first token: a listed word, or an unlisted 0. -/
theorem Memory.read_ofImage_cons_self (v : Word) (ts : List ImageToken) {a : Nat}
    (h : a + 1 + ts.length ≤ addressSpace) : (Memory.ofImage a (.word v :: ts)).read a = v := by
  rw [Memory.ofImage]
  split_ifs with hv
  · rw [hv, Memory.read_below (Memory.wfFrom_ofImage (a + 1) ts h) (Nat.lt_succ_self a)]
  · rw [Memory.read, if_pos rfl]

/-- An image that fits holds its `n`th token at the `n`th address. -/
theorem Memory.read_ofImage {a n : Nat} {ts : List ImageToken} {w : Word} (hfit : a + ts.length ≤ addressSpace)
    (h : ts[n]? = some (.word w)) : (Memory.ofImage a ts).read (a + n) = w := by
  induction ts generalizing a n with
  | nil => simp at h
  | cons t ts ih =>
    have hrest : a + 1 + ts.length ≤ addressSpace := by simpa [Nat.add_right_comm, Nat.add_assoc] using hfit
    cases n with
    | zero =>
      obtain rfl : t = .word w := by simpa using h
      exact Memory.read_ofImage_cons_self w ts hrest
    | succ n =>
      rw [Memory.read_ofImage_cons_of_lt t ts (by omega), Nat.add_comm n 1, ← Nat.add_assoc]
      exact ih hrest (by simpa using h)

/-- Every address of a loaded image reads back its token. -/
theorem hostRead_loadImage (s : State) {ts : List ImageToken} {a : Nat} {w : Word} (hts : imageWellFormed ts = true)
    (h : ts[a]? = some (.word w)) : hostRead (loadImage s ts).state a = .ok w := by
  have hlen : ts.length = addressSpace := length_of_imageWellFormed hts
  have ha : a < addressSpace := hlen ▸ (List.getElem?_eq_some_iff.mp h).1
  have hread : (Memory.ofImage 0 ts).read (0 + a) = w :=
    Memory.read_ofImage (by rw [Nat.zero_add, hlen]) h
  rw [hostRead_of_lt _ ha, State.memRead_ofNat _ ha, loadImage_of_wellFormed s hts, ← hread, Nat.zero_add]

end Machine

end Sys2Proof

/-! ## The obligations -/

namespace Sys2Proof.Proofs

open Sys2Proof.Machine Sys2Proof.Safety

/-- Settles O37: the store address is where the instruction's effect stores, and an effect writes no other word. -/
theorem onlyStoresChangeMemory : Obligations.OnlyStoresChangeMemory := by
  unfold Obligations.OnlyStoresChangeMemory
  intro i s t a hexec haddr
  rw [storeAddress_eq_stores] at haddr
  rw [eq_run_of_exec hexec]
  exact Effect.run_memRead_of_not_stores haddr

/-- Settles O50: LD takes the word at `x` from the memory that ST left, and that is the word stored. -/
theorem storeThenLoadReturnsTheWord : Obligations.StoreThenLoadReturnsTheWord := by
  unfold Obligations.StoreThenLoadReturnsTheWord
  intro s t u a d x hm hst hld
  have hstored : t.memRead x = s.getReg a := by
    rw [eq_run_of_exec hst]
    exact Effect.run_memRead_of_stores hm rfl
  rw [← hstored, eq_run_of_exec hld]
  exact State.getReg_setReg_self t d _

/-- Settles O53: in each clause the effect stores at the PC it leaves. -/
theorem nextFetchSeesTheStore : Obligations.NextFetchSeesTheStore := by
  unfold Obligations.NextFetchSeesTheStore
  intro s t hm
  refine ⟨fun a h => ?st, fun a b hb h => ?str, fun a hsp h => ?push, fun x hsp h => ?jsr⟩
  all_goals
    rw [eq_run_of_exec h]
    apply Effect.run_ir0_of_stores_at_pc hm
  case st => rfl
  case str => exact congrArg (fun slot => some (slot, s.getReg a)) hb
  case push => exact congrArg (fun slot => some (slot, s.getReg a)) hsp
  case jsr => exact congrArg (fun slot => some (slot, s.pc + 2)) hsp

/-- Settles O54: the events by the region's bounds, the coordinates by dividing the offset `y * W + x` by `W`. -/
theorem framebufferWritesEmitOnePixel : Obligations.FramebufferWritesEmitOnePixel := by
  unfold Obligations.FramebufferWritesEmitOnePixel
  refine ⟨fun s a v hlo hhi => ?inside, fun s a v hout => ?outside, fun x y hx hfits => ⟨?column, ?row⟩⟩
  case inside =>
    rw [State.memWrite_events, pixelEvents_of_inFramebuffer v ((inFramebuffer_iff a).mpr ⟨hlo, hhi⟩)]
  case outside =>
    have hregion : ¬inFramebuffer a = true := by rw [inFramebuffer_iff]; omega
    rw [State.memWrite_events, pixelEvents_of_not_inFramebuffer v hregion, List.append_nil]
  case column =>
    rw [pixelX_framebufferWord hfits, Nat.mul_add_mod_self_right, Nat.mod_eq_of_lt hx]
  case row =>
    rw [pixelY_framebufferWord hfits, Nat.mul_comm, Nat.mul_add_div Config.fbWidth_pos, Nat.div_eq_of_lt hx,
      Nat.add_zero]

/-- Settles O56: a load of a well-formed image succeeds, replaces RAM alone, and each token reads back. -/
theorem imageRoundTrip : Obligations.ImageRoundTrip := by
  unfold Obligations.ImageRoundTrip
  intro s ts hts
  refine ⟨?_, fun a w h => hostRead_loadImage s hts h, ?_⟩
  all_goals rw [loadImage_of_wellFormed s hts]

/-- Settles O55: the fields recombine to the word and each is bounded by its width. -/
theorem pixelWordIsRgb565 : Obligations.PixelWordIsRgb565 := by
  unfold Obligations.PixelWordIsRgb565
  exact ⟨fun v => ⟨toNat_eq_pixelFields v, bitField_lt v 11 5, bitField_lt v 5 6, bitField_lt v 0 5⟩,
    by decide, by decide, by decide⟩

/-- Settles O57: an image of another size or with a non-numeric token is not well-formed. -/
theorem malformedImageIsRejected : Obligations.MalformedImageIsRejected := by
  unfold Obligations.MalformedImageIsRejected
  intro s ts hbad
  apply loadImage_of_not_wellFormed
  rw [imageWellFormed_iff]
  rintro ⟨hlen, hnumeric⟩
  exact hbad.elim (fun hsize => hsize hlen) hnumeric

/-- Settles O58: both accesses by the side of 65536 the address is on. -/
theorem hostAccess : Obligations.HostAccess := by
  unfold Obligations.HostAccess
  intro s a v
  refine ⟨fun ha => ⟨hostWrite_of_le s v ha, hostRead_of_le s ha⟩, fun ha => hostRead_of_lt s ha, fun ha hm =>
    ⟨?succeeds, hostRead_hostWrite_self v hm ha, fun b hb => hostRead_hostWrite_ne s v hb, ?frame⟩⟩
  case succeeds => rw [hostWrite_of_lt s v ha]
  case frame =>
    rw [hostWrite_of_lt s v ha]
    rfl

end Sys2Proof.Proofs

/-! SUPPORT and PROOFS. The family of spec/30_encoding.md: decoder and encoder are inverse to each other (R91, R93,
R96), which fields an instruction depends on (R92), its length (R90, R101), and what the control bundle says of the
undefined words (R97, R98) and of FLAGS (R94). -/

/-! ## The decoder and the encoder on fields

A word is its five fields. On fields the decoder and the encoder are two tables with 128 rows each, and what the
obligations say of words follows from comparing the tables once in each direction. -/

namespace Sys2Proof

open Safety

/-- The instruction with the given fields and extension word. -/
def decodeFields (c s : Nat) (d a b : Reg) (x : Word) : Instr :=
  match c with
  | 0 => decodeClass0 s d a b
  | 1 => decodeClass1 s d a b
  | 2 => decodeClass2 s d x
  | 3 => decodeClass3 s d a b x
  | 4 => decodeClass4 s x
  | 5 => decodeClass5 s d a
  | 6 => decodeClass6 s
  | _ => decodeClass7 s d a

theorem decodePair_eq_decodeFields (w x : Word) :
    decodePair w x = decodeFields (classField w) (subField w) (dstField w) (srcAField w) (srcBField w) x := rfl

/-- The fields kept by the format of class `c` and subopcode `s` (R96), the others 0, and the extension word where
the list of lengths has one (R90). -/
def canonicalEncoding (c s : Nat) (d a b : Reg) (x : Word) : Encoding where
  cls := c
  sub := s
  dst := if (formatOf c s).usesDst then d else 0
  srcA := if (formatOf c s).usesSrcA then a else 0
  srcB := if (formatOf c s).usesSrcB then b else 0
  ext := if hasExtension c s then some x else none

/-- The decoder's table against the encoder's: an instruction keeps exactly the fields its format names. -/
theorem encodingOf_decodeFields {c s : Nat} (hc : c < 8) (hs : s < 16) (d a b : Reg) (x : Word) :
    encodingOf (decodeFields c s d a b x) = canonicalEncoding c s d a b x := by
  interval_cases c
  all_goals interval_cases s
  all_goals rfl

/-- The encoder's table against the decoder's: an instruction is the one with its encoding's fields. -/
theorem decodeFields_encodingOf (i : Instr) (x : Word) :
    decodeFields (encodingOf i).cls (encodingOf i).sub (encodingOf i).dst (encodingOf i).srcA (encodingOf i).srcB
      ((encodingOf i).ext.getD x) = i := by
  cases i <;> rfl

theorem encodingOf_injective : Function.Injective encodingOf := by
  intro i j h
  rw [← decodeFields_encodingOf i 0, h, decodeFields_encodingOf j 0]

theorem encodingOf_decodePair (w x : Word) :
    encodingOf (decodePair w x) =
      canonicalEncoding (classField w) (subField w) (dstField w) (srcAField w) (srcBField w) x :=
  encodingOf_decodeFields (classField_lt w) (subField_lt w) _ _ _ x

/-! ## The words of an instruction -/

/-- Every instruction's encoding fits its fields and has R90's length. -/
theorem encodingFits (i : Instr) : Laws.EncodingFits.Statement i := by
  cases i <;> exact ⟨Nat.le_of_ble_eq_true rfl, Nat.le_of_ble_eq_true rfl, rfl⟩

/-- The first word decodes back, with the instruction's own extension word or with any word where it has none. -/
theorem decodePair_firstWord (i : Instr) (x : Word) :
    decodePair (firstWord i) ((encodingOf i).ext.getD x) = i := by
  obtain ⟨hc, hs, -⟩ := encodingFits i
  rw [decodePair_eq_decodeFields, firstWord, classField_assemble hc hs, subField_assemble hc hs,
    dstField_assemble hc hs, srcAField_assemble hc hs, srcBField_assemble hc hs, decodeFields_encodingOf]

theorem hasExtension_firstWord (i : Instr) :
    hasExtension (classField (firstWord i)) (subField (firstWord i)) = (encodingOf i).ext.isSome := by
  obtain ⟨hc, hs, hext⟩ := encodingFits i
  rw [firstWord, classField_assemble hc hs, subField_assemble hc hs, hext]

/-- With two words at hand the decoder takes both or only the first, by the list of lengths. -/
theorem decode_two_words (w x : Word) (rest : List Word) :
    decode (w :: x :: rest) =
      if hasExtension (classField w) (subField w) then .instr (decodePair w x) rest
      else .instr (decodePair w 0) (x :: rest) := rfl

theorem decode_of_hasExtension {w : Word} (x : Word) (rest : List Word)
    (h : hasExtension (classField w) (subField w) = true) : decode (w :: x :: rest) = .instr (decodePair w x) rest :=
  if_pos h

theorem decode_of_not_hasExtension {w : Word} (rest : List Word)
    (h : hasExtension (classField w) (subField w) = false) : decode (w :: rest) = .instr (decodePair w 0) rest :=
  if_neg (Bool.eq_false_iff.mp h)

/-- The decoder inverts the encoder, by whether the encoding has an extension word. -/
theorem decode_encode_append (i : Instr) (rest : List Word) : decode (encode i ++ rest) = .instr i rest := by
  have hlength := hasExtension_firstWord i
  have hfields := decodePair_firstWord i 0
  rw [encode]
  cases hext : (encodingOf i).ext with
  | none =>
    rw [hext] at hlength hfields
    exact (decode_of_not_hasExtension rest hlength).trans (congrArg (Decoded.instr · rest) hfields)
  | some x =>
    rw [hext] at hlength hfields
    exact (decode_of_hasExtension x rest hlength).trans (congrArg (Decoded.instr · rest) hfields)

/-- Words that an instruction assembles to decode to it. -/
theorem decode_of_encode_eq {i : Instr} {ws : List Word} (h : encode i = ws) : decode ws = .instr i [] := by
  rw [← h, ← List.append_nil (encode i)]
  exact decode_encode_append i []

/-- Bits 15 to 9 of a word are its class and subopcode, assembled with zero operands (R102). -/
theorem and_selector_eq_assemble (w : Word) : w &&& 0xFE00 = assemble (classField w) (subField w) 0 0 0 := by
  have hselector : w &&& (0xFE00 : Word) = (w >>> 9) <<< 9 := by
    ext i hi
    interval_cases i <;> simp
  apply BitVec.eq_of_toNat_eq
  rw [hselector, assemble_toNat (classField_lt w) (subField_lt w)]
  have hw := w.isLt
  simp [classField, subField, bitField, Nat.shiftRight_eq_div_pow, Nat.shiftLeft_eq]
  omega

theorem hasExtension_iff (c s : Nat) :
    hasExtension c s = true ↔ c = 2 ∨ (c = 3 ∧ s ≤ 1) ∨ (c = 4 ∧ s ≤ 11) := by
  unfold hasExtension
  split
  all_goals simp_all

end Sys2Proof

/-! ## The control bundle, class by class (R241) -/

namespace Sys2Proof.Machine

theorem controls_of_class1 {w : Word} (f : BitVec 4) (h : classField w = 1) :
    controls w f = controlsClass1 (subField w) (inertControls w) := by
  simp only [controls, h]

theorem controls_of_class3 {w : Word} (f : BitVec 4) (h : classField w = 3) :
    controls w f = controlsClass3 (subField w) (inertControls w) := by
  simp only [controls, h]

theorem controls_of_class4 {w : Word} (f : BitVec 4) (h : classField w = 4) :
    controls w f = controlsClass4 (subField w) f (inertControls w) := by
  simp only [controls, h]

theorem controls_of_class6 {w : Word} (f : BitVec 4) (h : classField w = 6) : controls w f = inertControls w := by
  simp only [controls, h]

theorem controls_of_class7 {w : Word} (f : BitVec 4) (h : classField w = 7) :
    controls w f = controlsClass7 (subField w) (inertControls w) := by
  simp only [controls, h]

/-! The undefined subopcodes of a class leave the bundle as it is (R98). -/

theorem controlsClass1_of_undefined {s : Nat} (e : Controls) (hcmp : s ≠ 10) (hnot : s ≠ 11) :
    controlsClass1 s e = e := by
  unfold controlsClass1
  split
  · exact absurd rfl hcmp
  · exact absurd rfl hnot
  · rfl

theorem controlsClass3_of_undefined {s : Nat} (e : Controls) (h : 4 ≤ s) : controlsClass3 s e = e := by
  unfold controlsClass3
  split
  case h_5 => rfl
  all_goals omega

theorem controlsClass4_of_undefined {s : Nat} (f : BitVec 4) (e : Controls) (h : 13 ≤ s) :
    controlsClass4 s f e = e := by
  rw [controlsClass4, if_neg (by omega), if_neg (by omega), if_neg (by omega)]

theorem controlsClass7_of_undefined {s : Nat} (e : Controls) (h : 7 ≤ s) : controlsClass7 s e = e := by
  rw [controlsClass7, if_neg (by omega), if_neg (by omega), if_neg (by omega)]

/-! The length signal (R90). -/

theorem controlsClass3_isNxtExt (s : Nat) {e : Controls} (he : e.isNxtExt = false) :
    (controlsClass3 s e).isNxtExt = hasExtension 3 s := by
  unfold controlsClass3
  split
  case h_1 => rfl
  case h_2 => rfl
  case h_3 => exact he
  case h_4 => exact he
  case h_5 h0 h1 _ _ =>
    have hsub : ¬s ≤ 1 := fun hle => (Nat.le_one_iff_eq_zero_or_eq_one.mp hle).elim h0 h1
    exact he.trans (decide_eq_false hsub).symm

theorem controlsClass4_isNxtExt (s : Nat) (f : BitVec 4) {e : Controls} (he : e.isNxtExt = false) :
    (controlsClass4 s f e).isNxtExt = hasExtension 4 s := by
  unfold controlsClass4
  split_ifs with hjump hjsr hrts
  · exact (decide_eq_true (by omega : s ≤ 11)).symm
  · exact (decide_eq_true (by omega : s ≤ 11)).symm
  · exact he.trans (decide_eq_false (by omega : ¬s ≤ 11)).symm
  · exact he.trans (decide_eq_false (by omega : ¬s ≤ 11)).symm

/-- Classes 0, 1, 5 and 7 leave the length signal alone. -/
theorem isNxtExt_of_one_word_class (s : Nat) (e : Controls) :
    (controlsClass0 s e).isNxtExt = e.isNxtExt ∧ (controlsClass1 s e).isNxtExt = e.isNxtExt ∧
    (controlsClass5 s e).isNxtExt = e.isNxtExt ∧ (controlsClass7 s e).isNxtExt = e.isNxtExt := by
  refine ⟨?_, ?_, ?_, ?_⟩
  · unfold controlsClass0; split <;> rfl
  · unfold controlsClass1; split <;> rfl
  · unfold controlsClass5; split <;> rfl
  · unfold controlsClass7; split_ifs <;> rfl

/-- The bundle's length signal is the decoder's list of lengths, whatever FLAGS holds. -/
theorem controls_isNxtExt (w : Word) (f : BitVec 4) :
    (controls w f).isNxtExt = hasExtension (classField w) (subField w) := by
  obtain ⟨h0, h1, h5, h7⟩ := isNxtExt_of_one_word_class (subField w) (inertControls w)
  unfold controls
  split
  case h_1 h => rw [h, h0]; rfl
  case h_2 h => rw [h, h1]; rfl
  case h_3 h => rw [h]; rfl
  case h_4 h => rw [h]; exact controlsClass3_isNxtExt _ rfl
  case h_5 h => rw [h]; exact controlsClass4_isNxtExt _ f rfl
  case h_6 h => rw [h, h5]; rfl
  case h_7 h => rw [h]; rfl
  case h_8 => simp_all [hasExtension, inertControls]

/-! FLAGS reaches the bundle through a conditional jump alone (R94). -/

theorem controlsClass4_of_jump {s : Nat} (f : BitVec 4) (e : Controls) (h : s ≤ 10) :
    controlsClass4 s f e = { e with loadPC := true, isNxtExt := true, containsAddress := condition s f } :=
  if_pos h

theorem controlsClass4_of_not_jump {s : Nat} (f g : BitVec 4) (e : Controls) (h : ¬s ≤ 10) :
    controlsClass4 s f e = controlsClass4 s g e := by
  rw [controlsClass4, controlsClass4, if_neg h, if_neg h]

theorem controls_eq_of_not_jump {w : Word} (f g : BitVec 4) (h : ¬(classField w = 4 ∧ subField w ≤ 10)) :
    controls w f = controls w g := by
  by_cases h4 : classField w = 4
  · rw [controls_of_class4 f h4, controls_of_class4 g h4]
    exact controlsClass4_of_not_jump f g _ fun hjump => h ⟨h4, hjump⟩
  · unfold controls
    split
    case h_5 hclass => exact absurd hclass h4
    all_goals rfl

end Sys2Proof.Machine

/-! ## The obligations -/

namespace Sys2Proof.Proofs

open Sys2Proof.Machine Sys2Proof.Safety

/-- Settles O1: the fields of the first word are the encoding's, and the encoding determines the instruction. -/
theorem decodeOfEncodeIsIdentity : Obligations.DecodeOfEncodeIsIdentity := by
  unfold Obligations.DecodeOfEncodeIsIdentity
  exact decode_encode_append

/-- Settles O2: the encoding of a decoded word is the canonical one of the word's fields. -/
theorem encodeOfDecodeKeepsTheFields : Obligations.EncodeOfDecodeKeepsTheFields := by
  unfold Obligations.EncodeOfDecodeKeepsTheFields
  intro w x
  rw [encodingOf_decodePair]
  exact ⟨and_selector_eq_assemble w, rfl, rfl, rfl, rfl, rfl, rfl⟩

/-- Settles O3: such words decode to instructions with the same encoding. -/
theorem unusedFieldsHaveNoEffect : Obligations.UnusedFieldsHaveNoEffect := by
  unfold Obligations.UnusedFieldsHaveNoEffect
  intro w w' x hcls hsub hdst hsrcA hsrcB
  apply encodingOf_injective
  rw [encodingOf_decodePair, encodingOf_decodePair, ← hcls, ← hsub, canonicalEncoding, canonicalEncoding,
    ite_congr rfl hdst fun _ => rfl, ite_congr rfl hsrcA fun _ => rfl, ite_congr rfl hsrcB fun _ => rfl]

/-- Settles O4: two words always hold an instruction, and each undefined pair is a default row of its class. -/
theorem decodingIsTotal : Obligations.DecodingIsTotal := by
  unfold Obligations.DecodingIsTotal
  refine ⟨fun w x rest => ?total, fun w f hundefined => ?inert⟩
  case total =>
    rw [decode_two_words]
    split
    · exact ⟨_, _, rfl⟩
    · exact ⟨_, _, rfl⟩
  case inert =>
    obtain ⟨h, hcmp, hnot⟩ | ⟨h, hsub⟩ | ⟨h, hsub⟩ | h | ⟨h, hsub⟩ := hundefined
    · exact (controls_of_class1 f h).trans (controlsClass1_of_undefined _ hcmp hnot)
    · exact (controls_of_class3 f h).trans (controlsClass3_of_undefined _ hsub)
    · exact (controls_of_class4 f h).trans (controlsClass4_of_undefined f _ hsub)
    · exact controls_of_class6 f h
    · exact (controls_of_class7 f h).trans (controlsClass7_of_undefined _ hsub)

/-- Settles O5: the bundle and the decoder follow one list of lengths. -/
theorem lengthFollowsTheList : Obligations.LengthFollowsTheList := by
  unfold Obligations.LengthFollowsTheList
  intro w x rest f
  rw [controls_isNxtExt]
  exact ⟨hasExtension_iff _ _, decode_two_words w x rest⟩

/-- Settles O6: a conditional jump's bundle holds FLAGS in one field, and every other bundle nowhere. -/
theorem flagsReachTheBundleOnlyThroughJumps : Obligations.FlagsReachTheBundleOnlyThroughJumps := by
  unfold Obligations.FlagsReachTheBundleOnlyThroughJumps
  intro w f g
  refine ⟨?_, controls_eq_of_not_jump f g⟩
  by_cases hjump : classField w = 4 ∧ subField w ≤ 10
  · obtain ⟨h4, hsub⟩ := hjump
    rw [controls_of_class4 f h4, controls_of_class4 g h4, controlsClass4_of_jump f _ hsub,
      controlsClass4_of_jump g _ hsub]
  · rw [controls_eq_of_not_jump f g hjump]

/-- Settles O7: each row's words are what its instruction assembles to. -/
theorem theSpecsWordsDecode : Obligations.TheSpecsWordsDecode := by
  unfold Obligations.TheSpecsWordsDecode
  and_intros
  all_goals exact decode_of_encode_eq rfl

end Sys2Proof.Proofs

/-! SUPPORT and PROOFS. The family of spec/40_alu.md: what the ALU puts out (R120 to R122), the carry, the borrow and
the overflows of addition and subtraction as exact comparisons and as sign-bit formulas (R123), and unsigned division
(R125, R126). -/

/-! ## The outputs of the ALU (R120 to R122) -/

namespace Sys2Proof.Machine

theorem alu_disabled (a b : Word) (op : BitVec 4) : alu a b op false = ⟨0, false, false, false, false⟩ := rfl

@[simp] theorem alu_r (a b : Word) (op : BitVec 4) : (alu a b op true).r = aluResult a b op := rfl

@[simp] theorem alu_z (a b : Word) (op : BitVec 4) : (alu a b op true).z = (aluResult a b op == 0) := rfl

@[simp] theorem alu_n (a b : Word) (op : BitVec 4) : (alu a b op true).n = (aluResult a b op).msb := rfl

@[simp] theorem alu_c (a b : Word) (op : BitVec 4) : (alu a b op true).c = aluCarry a b op := rfl

@[simp] theorem alu_v (a b : Word) (op : BitVec 4) : (alu a b op true).v = aluOverflow a b op := rfl

/-- Only the selectors of ADD and SUB have a row in the carry's and the overflow's tables. -/
theorem aluCarry_aluOverflow_eq_false (a b : Word) {op : BitVec 4} (hadd : op ≠ 0) (hsub : op ≠ 1)
    (halias : op ≠ 10) : aluCarry a b op = false ∧ aluOverflow a b op = false := by
  unfold aluCarry aluOverflow
  split
  case h_1 h => exact absurd (BitVec.eq_of_toNat_eq h) hadd
  case h_2 h => exact absurd (BitVec.eq_of_toNat_eq h) hsub
  case h_3 h => exact absurd (BitVec.eq_of_toNat_eq h) halias
  case h_4 => exact ⟨rfl, rfl⟩

/-! ## Addition and subtraction (R123) -/

theorem alu_add (a b : Word) :
    alu a b 0 true = ⟨a + b, a + b == 0, (a + b).msb, addCarry a b, addOverflow a b (a + b)⟩ := rfl

theorem alu_sub (a b : Word) :
    alu a b 1 true = ⟨a - b, a - b == 0, (a - b).msb, subBorrow a b, subOverflow a b (a - b)⟩ := rfl

theorem alu_sub_alias (a b : Word) : alu a b 10 true = alu a b 1 true := rfl

/-- The spec's sign bit, bit 15 of a word. -/
theorem getLsbD_15_eq_msb (w : Word) : w.getLsbD 15 = w.msb := (BitVec.msb_eq_getLsbD_last w).symm

theorem msb_iff_le_toNat (w : Word) : w.msb = true ↔ 0x8000 ≤ w.toNat := by
  rw [BitVec.msb_eq_decide, decide_eq_true_iff]

theorem addCarry_iff (a b : Word) : addCarry a b = true ↔ 0x10000 ≤ a.toNat + b.toNat := decide_eq_true_iff

theorem subBorrow_iff (a b : Word) : subBorrow a b = true ↔ a.toNat < b.toNat := decide_eq_true_iff

theorem addOverflow_iff (a b r : Word) : addOverflow a b r = true ↔ a.msb = b.msb ∧ r.msb ≠ a.msb := by
  rw [addOverflow, Bool.and_eq_true, beq_iff_eq, bne_iff_ne]

theorem subOverflow_iff (a b r : Word) : subOverflow a b r = true ↔ a.msb ≠ b.msb ∧ r.msb ≠ a.msb := by
  rw [subOverflow, Bool.and_eq_true, bne_iff_ne, bne_iff_ne]

/-- A difference of words is the difference of their numbers modulo 2^16. -/
theorem toNat_sub_eq_emod (a b : Word) : ((a - b).toNat : Int) = ((a.toNat : Int) - b.toNat) % 65536 := by
  have hb := b.isLt
  rw [BitVec.toNat_sub]
  omega

/-- The carry out of bit 15: both sign bits are set, or one is and the sum has lost it. -/
theorem addCarry_eq_signBits (a b : Word) :
    addCarry a b = ((a.msb && b.msb) || ((a.msb || b.msb) && !(a + b).msb)) := by
  have ha := a.isLt
  have hb := b.isLt
  rw [Bool.eq_iff_iff, addCarry_iff]
  simp only [Bool.or_eq_true, Bool.and_eq_true, Bool.not_eq_true', ← Bool.not_eq_true, msb_iff_le_toNat,
    BitVec.toNat_add]
  omega

/-- The borrow out of bit 15: only the subtrahend's sign bit is set, or the two agree and the difference's is set. -/
theorem subBorrow_eq_signBits (a b : Word) :
    subBorrow a b = ((!a.msb && b.msb) || ((!a.msb || b.msb) && (a - b).msb)) := by
  have ha := a.isLt
  have hb := b.isLt
  rw [Bool.eq_iff_iff, subBorrow_iff]
  simp only [Bool.or_eq_true, Bool.and_eq_true, Bool.not_eq_true', ← Bool.not_eq_true, msb_iff_le_toNat,
    BitVec.toNat_sub]
  omega

/-! ## Division and remainder (R125, R126) -/

theorem toNat_aluResult_div (a : Word) {b : Word} (h : b ≠ 0) : (aluResult a b 3).toNat = a.toNat / b.toNat := by
  have hresult : aluResult a b 3 = BitVec.ofNat 16 (a.toNat / b.toNat) := if_neg h
  rw [hresult]
  exact toNat_ofNat_of_lt ((Nat.div_le_self _ _).trans_lt a.isLt)

theorem toNat_aluResult_mod (a : Word) {b : Word} (h : b ≠ 0) : (aluResult a b 4).toNat = a.toNat % b.toNat := by
  have hresult : aluResult a b 4 = BitVec.ofNat 16 (a.toNat % b.toNat) := if_neg h
  rw [hresult]
  exact toNat_ofNat_of_lt ((Nat.mod_le _ _).trans_lt a.isLt)

theorem aluResult_div_zero (a : Word) : aluResult a 0 3 = 0 := rfl

theorem aluResult_mod_zero (a : Word) : aluResult a 0 4 = 0 := rfl

end Sys2Proof.Machine

/-! ## The obligations -/

namespace Sys2Proof.Proofs

open Sys2Proof.Machine

/-- Settles O8: the disabled output does not name the inputs. -/
theorem disabledAluIsAllZero : Obligations.DisabledAluIsAllZero := by
  unfold Obligations.DisabledAluIsAllZero
  exact alu_disabled

/-- Settles O9: z and n are read off the result, and only three selectors have a row for c and v. -/
theorem enabledAluFlags : Obligations.EnabledAluFlags := by
  unfold Obligations.EnabledAluFlags
  intro a b op
  refine ⟨?zero, ?negative, fun hadd hsub halias => ?carryAndOverflow⟩
  case zero => rw [alu_z, alu_r, beq_iff_eq]
  case negative => rw [alu_n, alu_r, getLsbD_15_eq_msb]
  case carryAndOverflow => exact aluCarry_aluOverflow_eq_false a b hadd hsub halias

/-- Settles O10: the model's carry and borrow are the comparisons, and each agrees with its sign-bit formula. -/
theorem addAndSubFlags : Obligations.AddAndSubFlags := by
  unfold Obligations.AddAndSubFlags
  intro a b
  simp only [alu_add, alu_sub, getLsbD_15_eq_msb]
  refine ⟨⟨BitVec.toNat_add a b, addCarry_iff a b, addCarry_eq_signBits a b, addOverflow_iff a b _⟩, ?_,
    alu_sub_alias a b⟩
  exact ⟨toNat_sub_eq_emod a b, subBorrow_iff a b, subBorrow_eq_signBits a b, subOverflow_iff a b _⟩

/-- Settles O11: for a divisor other than 0 the results are those of the natural numbers, which satisfy the law. -/
theorem divisionLaw : Obligations.DivisionLaw := by
  unfold Obligations.DivisionLaw
  intro a b
  refine ⟨fun hb => ?nonzero, ?zero⟩
  case nonzero =>
    have hpos : 0 < b.toNat := Nat.pos_of_ne_zero fun h => hb (BitVec.eq_of_toNat_eq h)
    rw [alu_r, alu_r, toNat_aluResult_div a hb, toNat_aluResult_mod a hb]
    exact ⟨(Nat.div_add_mod _ _).symm, Nat.mod_lt _ hpos⟩
  case zero =>
    rintro rfl
    exact ⟨aluResult_div_zero a, aluResult_mod_zero a⟩

end Sys2Proof.Proofs

/-! SUPPORT and PROOFS. The family of spec/41_alu_instructions.md: the register operations of class 0 (R140 to R149),
ZERO (R150), CMP (R152) and NOT (R153), each with the fields it ignores and with what it leaves in the latches. -/

/-! ## Decoding an assembled word -/

namespace Sys2Proof

theorem decodePair_assemble {c s : Nat} (hc : c < 8) (hs : s < 16) (d a b : Reg) (x : Word) :
    decodePair (assemble c s d a b) x = decodeFields c s d a b x := by
  rw [decodePair_eq_decodeFields, classField_assemble hc hs, subField_assemble hc hs, dstField_assemble hc hs,
    srcAField_assemble hc hs, srcBField_assemble hc hs]

/-- A one-word instruction's word decodes by its fields, whatever the operand fields hold. -/
theorem decode_assemble {c s : Nat} (hc : c < 8) (hs : s < 16) (hext : hasExtension c s = false) (d a b : Reg) :
    decode [assemble c s d a b] = .instr (decodeFields c s d a b 0) [] := by
  rw [decode_of_not_hasExtension [] (by rwa [classField_assemble hc hs, subField_assemble hc hs]),
    decodePair_assemble hc hs]

end Sys2Proof

/-! ## Results and packed flags -/

namespace Sys2Proof.Machine

theorem aluResult_add (a b : Word) : aluResult a b 0 = BitVec.ofNat 16 (a.toNat + b.toNat) := BitVec.add_def a b

/-- A difference of words is the integer difference, wrapped. -/
theorem aluResult_sub (a b : Word) : aluResult a b 1 = BitVec.ofInt 16 ((a.toNat : Int) - b.toNat) := by
  have hwrapped : ((a - b).toNat : Int) = ((a.toNat : Int) - b.toNat) % 65536 := toNat_sub_eq_emod a b
  change a - b = _
  apply BitVec.eq_of_toNat_eq
  rw [BitVec.toNat_ofInt]
  omega

theorem aluResult_mul (a b : Word) : aluResult a b 2 = BitVec.ofNat 16 (a.toNat * b.toNat) := BitVec.mul_def

theorem aluResult_not (a b : Word) : aluResult a b 11 = ~~~a := rfl

@[simp] theorem flagZ_packFlags (z n c v : Bool) : flagZ (packFlags z n c v) = z := by
  revert z n c v; decide

@[simp] theorem flagN_packFlags (z n c v : Bool) : flagN (packFlags z n c v) = n := by
  revert z n c v; decide

@[simp] theorem flagC_packFlags (z n c v : Bool) : flagC (packFlags z n c v) = c := by
  revert z n c v; decide

@[simp] theorem flagV_packFlags (z n c v : Bool) : flagV (packFlags z n c v) = v := by
  revert z n c v; decide

/-! ## The effects of classes 0 and 1 -/

theorem exec_of_effectOf_alu {i : Instr} {op : BitVec 4} {d a b : Reg} (h : effectOf (encodingOf i) = .alu op d a b)
    (s : State) :
    exec i s = .next (s.setReg d (aluResult (s.getReg a) (s.getReg b) op)).endOneWord := by
  rw [exec_eq_effect, h, Effect.run, aluToReg, alu_r]

theorem exec_of_effectOf_zero {i : Instr} {d : Reg} (h : effectOf (encodingOf i) = .zero d) (s : State) :
    exec i s = .next (s.setReg d 0).endOneWord := by
  rw [exec_eq_effect, h, Effect.run, zeroToReg, alu_disabled]

/-- Subopcodes 0 to 9 of class 0 are the ALU's selectors. -/
theorem effectOf_class0 {sub : Nat} (hsub : sub ≤ 9) (d a b : Reg) (ext : Option Word) :
    effectOf ⟨0, sub, d, a, b, ext⟩ = .alu (BitVec.ofNat 4 sub) d a b := if_pos hsub

end Sys2Proof.Machine

namespace Sys2Proof.Safety

open Sys2Proof.Machine

/-- All six ZERO instructions have the same effect. -/
theorem effectOf_of_mem_zeroes {i : Instr} {d : Reg} (h : i ∈ zeroes d) : effectOf (encodingOf i) = .zero d := by
  simp only [zeroes, List.mem_cons, List.not_mem_nil, or_false] at h
  obtain rfl | rfl | rfl | rfl | rfl | rfl := h
  all_goals rfl

/-! ## What a one-word instruction leaves -/

/-- A state whose PC and IR1 are still those of the start ends a one-word instruction (log entry 8). -/
theorem endsAt_endOneWord {s u : State} (hpc : u.pc = s.pc) (hir1 : u.ir1 = s.ir1) :
    EndsAt s u.endOneWord (s.pc + 1) none := by
  rw [← hpc]
  exact ⟨rfl, hir1, hir1, rfl, rfl, rfl⟩

theorem writesRegister_setReg_endOneWord (s : State) (d : Reg) (v : Word) :
    WritesRegister s (s.setReg d v).endOneWord d v s.sp where
  written := State.getReg_setReg_self s d v
  regs _ hr := State.getReg_setReg_ne s v hr
  sp := rfl
  flags := rfl
  memory _ := rfl
  ports := ⟨rfl, rfl⟩
  sequencer := ⟨rfl, rfl, rfl, rfl⟩

theorem leavesData_setFlags_endOneWord (s : State) (f : BitVec 4) :
    LeavesData s (s.setFlags f).endOneWord f s.sp where
  regs _ := rfl
  sp := rfl
  flags := rfl
  memory _ := rfl
  ports := ⟨rfl, rfl⟩
  sequencer := ⟨rfl, rfl, rfl, rfl⟩

/-- An instruction that writes one register and ends has no other effect. -/
theorem completes_of_exec_setReg {i : Instr} {s : State} {d : Reg} {v : Word}
    (h : exec i s = .next (s.setReg d v).endOneWord) :
    ∃ t, exec i s = .next t ∧ WritesRegister s t d v s.sp ∧ EndsAt s t (s.pc + 1) none :=
  ⟨_, h, writesRegister_setReg_endOneWord s d v, endsAt_endOneWord rfl rfl⟩

/-- The instruction at subopcode `sub` up to 9 of class 0 writes the result that selector `sub` gives. -/
theorem class0_decodes_and_completes {i : Instr} {sub : Nat} {d a b : Reg} {v : Word} (hsub : sub ≤ 9)
    (hi : encodingOf i = ⟨0, sub, d, a, b, none⟩) (s : State)
    (hv : aluResult (s.getReg a) (s.getReg b) (BitVec.ofNat 4 sub) = v) :
    decode [assemble 0 sub d a b] = .instr i [] ∧
      ∃ t, exec i s = .next t ∧ WritesRegister s t d v s.sp ∧ EndsAt s t (s.pc + 1) none := by
  have hwords : encode i = [assemble 0 sub d a b] := by rw [encode, firstWord, hi]; rfl
  have heffect : effectOf (encodingOf i) = .alu (BitVec.ofNat 4 sub) d a b := by rw [hi, effectOf_class0 hsub]
  refine ⟨decode_of_encode_eq hwords, completes_of_exec_setReg ?_⟩
  rw [exec_of_effectOf_alu heffect, hv]

end Sys2Proof.Safety

/-! ## The obligations -/

namespace Sys2Proof.Proofs

open Sys2Proof.Machine Sys2Proof.Safety

/-- Settles O14: one lemma for the ten subopcodes, with the selector's result as the spec's formula. Where the formula
is the selector's row itself, `rfl` reads it off. -/
theorem registerOperations : Obligations.RegisterOperations := by
  unfold Obligations.RegisterOperations
  intro s d a b
  refine ⟨?add, ?sub, ?mul, ?div, ?mod, ?and, ?or, ?nand, ?nor, ?xor⟩
  case add => exact class0_decodes_and_completes (by decide) rfl s (aluResult_add _ _)
  case sub => exact class0_decodes_and_completes (by decide) rfl s (aluResult_sub _ _)
  case mul => exact class0_decodes_and_completes (by decide) rfl s (aluResult_mul _ _)
  all_goals exact class0_decodes_and_completes (by decide) rfl s rfl

/-- Settles O15: the six words decode by their fields, and the six instructions share one effect. -/
theorem reservedZeroesWriteZero : Obligations.ReservedZeroesWriteZero := by
  unfold Obligations.ReservedZeroesWriteZero
  intro s d
  refine ⟨fun a b => ?decodes, fun i hi => ?writes⟩
  case decodes =>
    have hfits : ∀ k ∈ [10, 11, 12, 13, 14, 15], k < 16 := by decide
    have hfields : ∀ k ∈ [10, 11, 12, 13, 14, 15],
        decode [assemble 0 k d a b] = .instr (decodeFields 0 k d a b 0) [] := fun k hk =>
      decode_assemble (by decide) (hfits k hk) rfl d a b
    rw [List.map_congr_left hfields]
    rfl
  case writes => exact completes_of_exec_setReg (exec_of_effectOf_zero (effectOf_of_mem_zeroes hi) s)

/-- Settles O16: FLAGS becomes the packed outputs of the subtraction, and unpacking gives each one back. -/
theorem compareWritesFlagsOnly : Obligations.CompareWritesFlagsOnly := by
  unfold Obligations.CompareWritesFlagsOnly
  intro s a b
  refine ⟨fun d => decode_assemble (by decide) (by decide) rfl d a b, _, exec_eq_effect _ s,
    leavesData_setFlags_endOneWord s (compareFlags (s.getReg a) (s.getReg b)), endsAt_endOneWord rfl rfl, ?flags⟩
  case flags => exact ⟨flagZ_packFlags _ _ _ _, flagN_packFlags _ _ _ _, flagC_packFlags _ _ _ _, flagV_packFlags _ _ _ _⟩

/-- Settles O17: NOT is selector 11, which reads its first operand alone. -/
theorem notComplements : Obligations.NotComplements := by
  unfold Obligations.NotComplements
  intro s d a
  refine ⟨fun b => decode_assemble (by decide) (by decide) rfl d a b, completes_of_exec_setReg ?_⟩
  have heffect : effectOf (encodingOf (.not d a)) = .alu 11 d a a := rfl
  rw [exec_of_effectOf_alu heffect, aluResult_not]

end Sys2Proof.Proofs

/-! SUPPORT and PROOFS. The family of spec/42_load_store.md: load immediate (R170, R171), LD, ST, STR and LDR (R172 to
R175) at the instruction level, and the ticks on which LDI writes its register and on which ST, STR, PUSH and JSR commit
their word (R285). -/

/-! ## Decoding a two-word instruction -/

namespace Sys2Proof

open Safety

/-- A two-word instruction's words decode by its fields, whatever the operand fields hold. -/
theorem decode_assemble_ext {c s : Nat} (hc : c < 8) (hs : s < 16) (hext : hasExtension c s = true) (d a b : Reg)
    (x : Word) : decode [assemble c s d a b, x] = .instr (decodeFields c s d a b x) [] := by
  rw [decode_of_hasExtension x [] (by rwa [classField_assemble hc hs, subField_assemble hc hs]),
    decodePair_assemble hc hs]

/-- The sixteen LDI instructions are the rows of class 2. -/
theorem loadImmediates_eq_map (d : Reg) (x : Word) :
    loadImmediates d x = (List.range 16).map fun k => decodeFields 2 k d 0 0 x := rfl

theorem exists_sub_of_mem_loadImmediates {i : Instr} {d : Reg} {x : Word} (h : i ∈ loadImmediates d x) :
    ∃ k, k < 16 ∧ decodeFields 2 k d 0 0 x = i := by
  rw [loadImmediates_eq_map] at h
  obtain ⟨k, hk, hi⟩ := List.mem_map.mp h
  exact ⟨k, List.mem_range.mp hk, hi⟩

end Sys2Proof

/-! ## The length and the effect of an instruction -/

namespace Sys2Proof.Machine

theorem classField_firstWord (i : Instr) : classField (firstWord i) = (encodingOf i).cls :=
  classField_assemble (encodingFits i).1 (encodingFits i).2.1 _ _ _

theorem subField_firstWord (i : Instr) : subField (firstWord i) = (encodingOf i).sub :=
  subField_assemble (encodingFits i).1 (encodingFits i).2.1 _ _ _

/-- The lengths of class 3 (R286): an absolute access, a register-indirect one, and an inert word. -/
theorem instrTicks_firstWord_of_class3 {i : Instr} (h : (encodingOf i).cls = 3) :
    instrTicks (firstWord i) = if (encodingOf i).sub ≤ 1 then 6 else if (encodingOf i).sub ≤ 3 then 4 else 2 := by
  simp only [instrTicks, classField_firstWord, subField_firstWord, h]

/-- Every class-2 subopcode has LDI's effect (R171). -/
theorem exec_decodeFields_class2 {k : Nat} (hk : k < 16) (d : Reg) (x : Word) (s : State) :
    exec (decodeFields 2 k d 0 0 x) s = .next ((s.setReg d x).endTwoWords x) := by
  rw [exec_eq_effect, encodingOf_decodeFields (by decide) hk]
  rfl

end Sys2Proof.Machine

/-! ## What a load and a store leave -/

namespace Sys2Proof.Safety

open Sys2Proof.Machine

/-- A state whose PC is still that of the start ends a two-word instruction (log entry 8). -/
theorem endsAt_endTwoWords {s u : State} (x : Word) (hpc : u.pc = s.pc) :
    EndsAt s (u.endTwoWords x) (s.pc + 2) (some x) := by
  rw [← hpc]
  exact ⟨rfl, rfl, rfl, rfl, rfl, rfl⟩

/-- The frame does not name PC and the latches, in which alone the two ways to end differ. -/
theorem writesRegister_setReg_endTwoWords (s : State) (d : Reg) (v x : Word) :
    WritesRegister s ((s.setReg d v).endTwoWords x) d v s.sp :=
  { writesRegister_setReg_endOneWord s d v with ports := ⟨rfl, rfl⟩, sequencer := ⟨rfl, rfl, rfl, rfl⟩ }

theorem completes_of_exec_setReg_endTwoWords {i : Instr} {s : State} {d : Reg} {v x : Word}
    (h : exec i s = .next ((s.setReg d v).endTwoWords x)) :
    ∃ t, exec i s = .next t ∧ WritesRegister s t d v s.sp ∧ EndsAt s t (s.pc + 2) (some x) :=
  ⟨_, h, writesRegister_setReg_endTwoWords s d v x, endsAt_endTwoWords x rfl⟩

/-- A store by the CORE has the effect of a storing instruction even before the instruction ends. -/
theorem storesWord_memWrite {s : State} (hm : s.mem.wf = true) (a v : Word) :
    StoresWord s (s.memWrite a v) a v s.sp where
  stored := State.memRead_memWrite_self hm a v
  memory _ hb := State.memRead_memWrite_ne s v hb
  events := by simp only [State.memWrite_events, pixelEvents, inFramebuffer_iff]
  inDraws := rfl
  regs _ := rfl
  sp := rfl
  flags := rfl
  sequencer := ⟨rfl, rfl, rfl, rfl⟩

namespace StoresWord

variable {s t : State} {a v stack : Word}

/-- Ending an instruction moves PC and the latches alone, which the effect of a store does not name. -/
theorem finishAt (h : StoresWord s t a v stack) (target : Word) : StoresWord s (t.finishAt target) a v stack :=
  { h with sequencer := { h.sequencer with } }

theorem endOneWord (h : StoresWord s t a v stack) : StoresWord s t.endOneWord a v stack := h.finishAt (t.pc + 1)

theorem latchIr1 (h : StoresWord s t a v stack) (x : Word) : StoresWord s (t.latchIr1 x) a v stack :=
  { h with sequencer := { h.sequencer with } }

theorem endTwoWords (h : StoresWord s t a v stack) (x : Word) : StoresWord s (t.endTwoWords x) a v stack :=
  (h.latchIr1 x).finishAt (t.pc + 2)

end StoresWord

end Sys2Proof.Safety

/-! ## What a tick leaves in the holding pair and the instruction latches -/

namespace Sys2Proof.Machine

theorem arbiterAddress_congr {p : Phases} {d : Controls} {s t : State} (hregs : s.regs = t.regs) (hsp : s.sp = t.sp)
    (hpc : s.pc = t.pc) (hlatch : s.ramaddrLatch = t.ramaddrLatch) : arbiterAddress p d s = arbiterAddress p d t := by
  simp only [arbiterAddress, State.getReg, hregs, hsp, hpc, hlatch]

@[simp] theorem arbiterAddress_setWl (p : Phases) (d : Controls) (s : State) (b : Bool) :
    arbiterAddress p d (s.setWl b) = arbiterAddress p d s := rfl

/-- The read of step 7 is from the registers and the memory that the tick leaves (R280). -/
theorem tickWith_ramOut (s : State) (d : Controls) (c : Bool) :
    (tickWith s d c).ramOut = (tickWith s d c).memRead
      (arbiterAddress (tickWith s d c).phases (controls s.ir0 (tickWith s d c).flags) (tickWith s d c)) := by
  have haddr (p : Phases) (e : Controls) :
      arbiterAddress p e (tickWith s d c) = arbiterAddress p e (afterWrite s d c) :=
    arbiterAddress_congr (by simp [afterWrite]) (by simp [afterWrite]) (by simp [afterWrite]) (by simp [afterWrite])
  rw [haddr]
  simp [tickWith, ramReadStep, afterWrite, State.memRead]

theorem latchStep_ir1_idle (n : Phases) (s : State) :
    (latchStep n false s).ir1 = if n.ext then s.ramOut else s.ir1 := by
  rw [latchStep, if_neg Bool.false_ne_true]
  split_ifs
  all_goals rfl

/-- An idle half latches into IR1 while an extension word is being consumed (R268). -/
theorem tickWith_ir1_idle (s : State) (d : Controls) :
    (tickWith s d false).ir1 = if s.phases.ext then (tickWith s d false).ramOut else s.ir1 := by
  simp [tickWith, latchStep_ir1_idle, nextPhases]

theorem latchStep_ir0_of_busy {n : Phases} (s : State) (h : (n.ext || n.spc || n.regA || n.addrJ) = true) :
    (latchStep n false s).ir0 = s.ir0 := by
  simp only [Bool.or_eq_true] at h
  rw [latchStep, if_neg Bool.false_ne_true]
  split_ifs with hext hdata
  · rfl
  · rfl
  · simp_all

/-- An idle half leaves IR0 alone while an extension word is consumed and in every access to data (R268). -/
theorem tickWith_ir0_idle {s : State} {d : Controls}
    (h : (s.phases.ext || s.phases.spc || s.phases.regA || s.phases.addrJ) = true) :
    (tickWith s d false).ir0 = s.ir0 := by
  simp only [tickWith, State.setClock_ir0, portStep_ir0]
  rw [latchStep_ir0_of_busy (n := nextPhases s.phases d false) _ h]
  simp

theorem ramWriteStep_of_not_requested {p : Phases} {d : Controls} {c : Bool} {s : State}
    (h : (writeRequest p d s && ramClock p c) = false) : ramWriteStep p d c s = s :=
  if_neg (Bool.eq_false_iff.mp h)

theorem ramWriteStep_of_requested {p : Phases} {d : Controls} {c : Bool} {s : State}
    (h : (writeRequest p d s && ramClock p c) = true) :
    ramWriteStep p d c s = s.memWrite (arbiterAddress p d s) (writeData d s) :=
  if_pos h

end Sys2Proof.Machine

/-! ## The cycles of an instruction (R250, R285) -/

namespace Sys2Proof.Machine

/-- The cycle in which the extension word is read; JSR's has a flag of its own. -/
def extensionPhase (jsr : Bool) : Phases := { Phases.none with ext := true, jsrF := jsr }

/-- The idle half of the address cycle of LD and ST. -/
def addressIdlePhase : Phases := { Phases.none with addrJ := true, addrB := true }

/-- The cycle of an access at a register's value. -/
def registerPhase : Phases := { Phases.none with regA := true }

/-- The cycle of a stack access. -/
def stackPhase : Phases := { Phases.none with spc := true }

theorem phases_eq_none_of_first {p : Phases} (h : p.first = true) : p = .none := by
  obtain ⟨e, aj, ab, sp, jf, rf, ra⟩ := p
  simpa [Phases.first, Phases.none, and_assoc] using h

theorem quiescent_iff (s : State) : quiescent s = true ↔ s.clk = false ∧ s.phases = .none ∧ s.wl = false := by
  have hphases : s.phases.first = true ↔ s.phases = .none :=
    ⟨phases_eq_none_of_first, fun h => by rw [h]; rfl⟩
  simp [quiescent, atBoundary, hphases, and_assoc]

/-- The first active half takes PC past the instruction word (R264). -/
theorem nextPc_of_none {s : State} {d : Controls} (h : s.phases = .none) (hrts : d.rts = false) :
    nextPc s d = s.pc + 1 := by
  simp [nextPc, h, hrts, Phases.first, Phases.none]

/-- The active half after an extension cycle takes PC past the extension word, but for a jump that is taken (R264). -/
theorem nextPc_of_extensionPhase {s : State} {d : Controls} {jsr : Bool} (h : s.phases = extensionPhase jsr)
    (hjump : (d.loadPC && !d.jsr && d.containsAddress) = false) : nextPc s d = s.pc + 1 := by
  simp [nextPc, h, hjump, Phases.first, extensionPhase]

/-- The active half after a push leaves PC alone, or takes JSR's target from IR1 (R264). -/
theorem nextPc_of_stackPhase {s : State} (d : Controls) (h : s.phases = stackPhase) :
    nextPc s d = if d.jsr then s.ir1 else s.pc := by
  simp [nextPc, h, Phases.first, stackPhase, Phases.none]

/-- The active half after a push moves SP (R265). -/
theorem nextSp_of_stackPhase {s : State} {d : Controls} (h : s.phases = stackPhase) (hpop : d.spPop = false) :
    nextSp s d = s.sp - 1 := by
  simp [nextSp, h, hpop, Phases.first, stackPhase]

/-- The extension cycle reads the word at PC into the holding pair. -/
theorem tickWith_ramOut_of_extensionPhase {s : State} {d : Controls} {c jsr : Bool}
    (h : (tickWith s d c).phases = extensionPhase jsr) :
    (tickWith s d c).ramOut = (tickWith s d c).memRead (tickWith s d c).pc := by
  rw [tickWith_ramOut, h]
  rfl

end Sys2Proof.Machine

/-! ## Ticks inside an instruction that leaves the ALU and the ports alone -/

namespace Sys2Proof.Machine

/-- A bundle that asks for no ALU result, no flags, no port and no halt: those of LDI, LD, ST, STR, LDR, PUSH, POP, the
jumps, JSR and RTS. -/
structure MemoryBundle (d : Controls) : Prop where
  aluWb      : d.aluWb = false
  useIn      : d.useIn = false
  flagsWrite : d.flagsWrite = false
  hlt        : d.hlt = false

theorem activeRegWrite_of_memoryBundle {d : Controls} (hm : MemoryBundle d) (s : State) : activeRegWrite s d = s := by
  simp [activeRegWrite, hm.aluWb, hm.useIn]

theorem nextFlags_of_memoryBundle {d : Controls} (hm : MemoryBundle d) (s : State) : nextFlags s d = s.flags := by
  simp [nextFlags, hm.flagsWrite]

theorem idleRegWrite_of_not_regWrite {d : Controls} (h : d.regWrite = false) (s : State) : idleRegWrite s d = s := by
  simp [idleRegWrite, h]

/-- The part of the state that moves while an instruction is under way. -/
structure Stage where
  clk    : Bool
  phases : Phases
  wl     : Bool
  pc     : Word
  ir1    : Word
  mem    : Memory

/-- `t` is inside the instruction with bundle `d` that began at `s`, at stage `g`: the registers, SP, FLAGS and IR0 are
still those of `s`. -/
structure InFlight (d : Controls) (s t : State) (g : Stage) : Prop where
  bundle : controls s.ir0 s.flags = d
  memory : MemoryBundle d
  clk    : t.clk = g.clk
  phases : t.phases = g.phases
  wl     : t.wl = g.wl
  pc     : t.pc = g.pc
  ir1    : t.ir1 = g.ir1
  mem    : t.mem = g.mem
  regs   : t.regs = s.regs
  sp     : t.sp = s.sp
  flags  : t.flags = s.flags
  ir0    : t.ir0 = s.ir0

namespace InFlight

variable {s t : State} {d : Controls} {g : Stage} {p : Phases} {wl jsr : Bool} {pc ir1 : Word} {mem : Memory}

theorem getReg (h : InFlight d s t g) (r : Reg) : t.getReg r = s.getReg r := by
  simp only [State.getReg, h.regs]

theorem tick_eq (h : InFlight d s t g) : tick t = tickWith t d (!g.clk) := by
  rw [tick, h.ir0, h.flags, h.bundle, h.clk, h.memory.hlt, Bool.not_false, Bool.and_true]

/-! An active half. -/

/-- The registers that the arbiter and the write read on an active half are still those of `s`. -/
theorem getReg_registerStep_active (h : InFlight d s t g) (r : Reg) : (registerStep t d true).getReg r = s.getReg r := by
  simp only [State.getReg, registerStep_regs, if_pos, activeRegWrite_of_memoryBundle h.memory, h.regs]

/-- RAMADDR takes IR1 before the write of step 6 (R266). -/
theorem ramaddrLatch_registerStep_active (h : InFlight d s t g) : (registerStep t d true).ramaddrLatch = g.ir1 := by
  rw [registerStep_ramaddrLatch, if_pos rfl, h.ir1]

/-- With no write pending and outside a stack access nothing is committed. -/
theorem active (h : InFlight d s t ⟨false, p, false, pc, ir1, mem⟩) (hstack : p.spc = false)
    (hstore : (p.regA && d.memWrite) = false) (hpop : d.spPop = false) {target : Word} (hpc : nextPc t d = target) :
    InFlight d s (tick t) ⟨true, nextPhases p d true, false, target, ir1, mem⟩ := by
  have hsp : nextSp t d = t.sp := by simp [nextSp, hpop, h.phases, hstack]
  have hrequest : writeRequest t.phases d (registerStep t d true) = false := by
    simp [writeRequest, h.wl, h.phases, hstack, hstore]
  have hwrite : afterWrite t d true = registerStep t d true :=
    ramWriteStep_of_not_requested (by rw [hrequest, Bool.false_and])
  rw [show tick t = tickWith t d true from h.tick_eq]
  exact {
    bundle := h.bundle
    memory := h.memory
    clk := by rw [tickWith_clk, h.clk, Bool.not_false]
    phases := by rw [tickWith_phases, h.phases]
    wl := by rw [tickWith_wl, nextWl, if_pos rfl, h.wl, Bool.false_and]
    pc := by rw [tickWith_pc, if_pos rfl, hpc]
    ir1 := (tickWith_ir1_active t d).trans h.ir1
    mem := by rw [tickWith_mem, hwrite, registerStep_mem, h.mem]
    regs := by rw [tickWith_regs, registerStep_regs, if_pos rfl, activeRegWrite_of_memoryBundle h.memory, h.regs]
    sp := by rw [tickWith_sp, if_pos rfl, hsp, h.sp]
    flags := by rw [tickWith_flags, if_pos rfl, nextFlags_of_memoryBundle h.memory, h.flags]
    ir0 := (tickWith_ir0_active t d).trans h.ir0 }

/-- After an extension cycle PC goes past the extension word, unless a jump is taken. -/
theorem active_extension (h : InFlight d s t ⟨false, extensionPhase jsr, false, pc, ir1, mem⟩) (hpop : d.spPop = false)
    (hjump : (d.loadPC && !d.jsr && d.containsAddress) = false) :
    InFlight d s (tick t) ⟨true, nextPhases (extensionPhase jsr) d true, false, pc + 1, ir1, mem⟩ := by
  have hpc : nextPc t d = pc + 1 := by rw [nextPc_of_extensionPhase h.phases hjump, h.pc]
  exact h.active rfl rfl hpop hpc

/-- The end of a store writes x[srcA] at the arbiter's address (R276, R277). -/
theorem mem_tick_of_request (h : InFlight d s t ⟨false, p, wl, pc, ir1, mem⟩) (hstack : p.spc = false)
    (hjsr : d.jsr = false) (hrequest : (wl || p.regA && d.memWrite) = true) {a : Word}
    (haddr : arbiterAddress p d (registerStep t d true) = a) :
    (tick t).mem = mem.write a.toNat (s.getReg d.srcA) := by
  have hcommit : (writeRequest t.phases d (registerStep t d true) && ramClock t.phases true) = true := by
    simpa [writeRequest, ramClock, h.wl, h.phases, hstack] using hrequest
  have hdata : writeData d (registerStep t d true) = s.getReg d.srcA := by
    rw [writeData, if_neg (Bool.eq_false_iff.mp hjsr), h.getReg_registerStep_active]
  rw [show tick t = tickWith t d true from h.tick_eq, tickWith_mem, afterWrite, ramWriteStep_of_requested hcommit,
    State.memWrite_mem, h.phases, haddr, hdata, registerStep_mem, h.mem]

/-- After a push SP moves (R265), and PC goes to JSR's target (R264). -/
theorem sp_pc_tick_of_push (h : InFlight d s t ⟨false, stackPhase, wl, pc, ir1, mem⟩) (hpop : d.spPop = false) :
    (tick t).sp = s.sp - 1 ∧ (tick t).pc = if d.jsr then ir1 else pc := by
  rw [show tick t = tickWith t d true from h.tick_eq, tickWith_sp, tickWith_pc, if_pos rfl, if_pos rfl,
    nextSp_of_stackPhase h.phases hpop, nextPc_of_stackPhase d h.phases, h.sp, h.ir1, h.pc]
  exact ⟨rfl, rfl⟩

/-! An idle half. -/

/-- Outside the fetch of an instruction word, by what the half leaves in the write latch, in IR1 and in memory. -/
theorem idle (h : InFlight d s t ⟨true, p, wl, pc, ir1, mem⟩) (hregs : d.regWrite = false)
    (hbusy : (p.ext || p.spc || p.regA || p.addrJ) = true) {w : Bool} {x : Word} {m : Memory}
    (hwl : nextWl wl d (nextPhases p d false) false = w) (hir1 : (tickWith t d false).ir1 = x)
    (hmem : (afterWrite t d false).mem = m) : InFlight d s (tick t) ⟨false, nextPhases p d false, w, pc, x, m⟩ := by
  rw [show tick t = tickWith t d false from h.tick_eq]
  exact {
    bundle := h.bundle
    memory := h.memory
    clk := by rw [tickWith_clk, h.clk, Bool.not_true]
    phases := by rw [tickWith_phases, h.phases]
    wl := by rw [tickWith_wl, h.phases, h.wl, hwl]
    pc := by rw [tickWith_pc, if_neg Bool.false_ne_true, h.pc]
    ir1 := hir1
    mem := by rw [tickWith_mem, hmem]
    regs := by
      rw [tickWith_regs, registerStep_regs, if_neg Bool.false_ne_true, idleRegWrite_of_not_regWrite hregs, h.regs]
    sp := by rw [tickWith_sp, if_neg Bool.false_ne_true, h.sp]
    flags := by rw [tickWith_flags, if_neg Bool.false_ne_true, h.flags]
    ir0 := by rw [tickWith_ir0_idle (by rwa [h.phases]), h.ir0] }

/-- Outside a stack access no idle half writes memory (R278). -/
theorem mem_afterWrite_idle (h : InFlight d s t g) (hstack : g.phases.spc = false) :
    (afterWrite t d false).mem = g.mem := by
  simp [afterWrite, ramWriteStep, ramClock, h.phases, hstack, h.mem]

/-- Outside an extension cycle no idle half latches a word into IR1 (R268). -/
theorem ir1_tickWith_idle (h : InFlight d s t g) (hext : g.phases.ext = false) : (tickWith t d false).ir1 = g.ir1 := by
  simp [tickWith_ir1_idle, h.phases, hext, h.ir1]

/-- In an access to data outside the stack only the phase flags and the write latch move. -/
theorem idle_data (h : InFlight d s t ⟨true, p, wl, pc, ir1, mem⟩) (hregs : d.regWrite = false) (hext : p.ext = false)
    (hstack : p.spc = false) (hdata : (p.regA || p.addrJ) = true) :
    InFlight d s (tick t)
      ⟨false, nextPhases p d false, nextWl wl d (nextPhases p d false) false, pc, ir1, mem⟩ := by
  have hbusy : (p.ext || p.spc || p.regA || p.addrJ) = true := by rwa [hext, hstack]
  exact h.idle hregs hbusy rfl (h.ir1_tickWith_idle hext) (h.mem_afterWrite_idle hstack)

/-- In the extension cycle the extension word is latched into IR1 (R268). -/
theorem idle_extension (h : InFlight d s t ⟨true, extensionPhase jsr, wl, pc, ir1, mem⟩) (hregs : d.regWrite = false) :
    InFlight d s (tick t) ⟨false, extensionPhase jsr, false, pc, mem.read pc.toNat, mem⟩ := by
  have hkept : (tickWith t d false).phases = extensionPhase jsr := by
    rw [tickWith_phases, h.phases]
    rfl
  have hmem : (afterWrite t d false).mem = mem := h.mem_afterWrite_idle rfl
  have hpc : (tickWith t d false).pc = pc := by rw [tickWith_pc, if_neg Bool.false_ne_true, h.pc]
  have hword : (tickWith t d false).ir1 = mem.read pc.toNat := by
    rw [tickWith_ir1_idle, h.phases, tickWith_ramOut_of_extensionPhase hkept, hpc, State.memRead, tickWith_mem, hmem]
    rfl
  exact h.idle hregs rfl (by simp [nextWl, nextPhases, extensionPhase]) hword hmem

/-- In a push the word is written at SP (R277, R278). -/
theorem idle_push (h : InFlight d s t ⟨true, stackPhase, wl, pc, ir1, mem⟩) (hregs : d.regWrite = false)
    (hpop : d.spPop = false) :
    InFlight d s (tick t)
      ⟨false, stackPhase, false, pc, ir1, mem.write s.sp.toNat (if d.jsr then pc else s.getReg d.srcA)⟩ := by
  have hkeeps : registerStep t d false = t := idleRegWrite_of_not_regWrite hregs t
  have hrequest : (writeRequest t.phases d t && ramClock t.phases false) = true := by
    simp [writeRequest, ramClock, h.phases, stackPhase, hpop]
  have haddr : arbiterAddress t.phases d t = s.sp := by
    rw [h.phases]
    exact h.sp
  have hmem : (afterWrite t d false).mem = mem.write s.sp.toNat (if d.jsr then pc else s.getReg d.srcA) := by
    rw [afterWrite, hkeeps, ramWriteStep_of_requested hrequest, State.memWrite_mem, haddr, writeData, h.pc, h.getReg,
      h.mem]
  exact h.idle hregs rfl (by simp [nextWl, nextPhases, stackPhase, Phases.currAddr, Phases.none])
    (h.ir1_tickWith_idle rfl) hmem

end InFlight

/-- The first tick of an instruction that pops nothing. -/
theorem inFlight_tick_of_quiescent {s : State} {d : Controls} (hs : quiescent s = true)
    (hd : controls s.ir0 s.flags = d) (hm : MemoryBundle d) (hpop : d.spPop = false) (hrts : d.rts = false) :
    InFlight d s (tick s) ⟨true, nextPhases .none d true, false, s.pc + 1, s.ir1, s.mem⟩ := by
  obtain ⟨hclk, hphases, hwl⟩ := (quiescent_iff s).mp hs
  have hstart : InFlight d s s ⟨false, .none, false, s.pc, s.ir1, s.mem⟩ :=
    ⟨hd, hm, hclk, hphases, hwl, rfl, rfl, rfl, rfl, rfl, rfl, rfl⟩
  exact hstart.active rfl rfl hpop (nextPc_of_none hphases hrts)

end Sys2Proof.Machine

/-! ## The bundles of LDI, ST, STR, PUSH and JSR (R241) -/

namespace Sys2Proof.Machine

/-- LDI's row, the same for every subopcode of class 2. -/
def immediateBundle (w : Word) : Controls := { inertControls w with isNxtExt := true, regWrite := true }

/-- ST's row. -/
def storeBundle (w : Word) : Controls :=
  { inertControls w with containsAddress := true, isNxtExt := true, memWrite := true }

/-- STR's row. -/
def storeIndirectBundle (w : Word) : Controls :=
  { inertControls w with containsAddress := true, regIsAddress := true, memWrite := true }

/-- PUSH's row, the same for every subopcode of class 5 but POP's. -/
def pushBundle (w : Word) : Controls := { inertControls w with spChange := true }

/-- JSR's row. -/
def callBundle (w : Word) : Controls :=
  { inertControls w with loadPC := true, isNxtExt := true, containsAddress := true, jsr := true, spChange := true }

theorem controls_immediate {w : Word} (f : BitVec 4) (h : classField w = 2) : controls w f = immediateBundle w := by
  simp only [controls, h, immediateBundle]

theorem controls_store {w : Word} (f : BitVec 4) (h : classField w = 3) (hsub : subField w = 1) :
    controls w f = storeBundle w := by
  rw [controls_of_class3 f h, hsub]
  rfl

theorem controls_storeIndirect {w : Word} (f : BitVec 4) (h : classField w = 3) (hsub : subField w = 2) :
    controls w f = storeIndirectBundle w := by
  rw [controls_of_class3 f h, hsub]
  rfl

theorem controls_push {w : Word} (f : BitVec 4) (h : classField w = 5) (hsub : subField w ≠ 1) :
    controls w f = pushBundle w := by
  simp only [controls, h, controlsClass5]
  rfl

theorem controls_call {w : Word} (f : BitVec 4) (h : classField w = 4) (hsub : subField w = 11) :
    controls w f = callBundle w := by
  rw [controls_of_class4 f h, hsub]
  rfl

theorem memoryBundle_immediate (w : Word) : MemoryBundle (immediateBundle w) := ⟨rfl, rfl, rfl, rfl⟩
theorem memoryBundle_store (w : Word) : MemoryBundle (storeBundle w) := ⟨rfl, rfl, rfl, rfl⟩
theorem memoryBundle_storeIndirect (w : Word) : MemoryBundle (storeIndirectBundle w) := ⟨rfl, rfl, rfl, rfl⟩
theorem memoryBundle_push (w : Word) : MemoryBundle (pushBundle w) := ⟨rfl, rfl, rfl, rfl⟩
theorem memoryBundle_call (w : Word) : MemoryBundle (callBundle w) := ⟨rfl, rfl, rfl, rfl⟩

end Sys2Proof.Machine

/-! ## Tick by tick (R285) -/

namespace Sys2Proof.Machine

variable {s : State}

theorem add_one_add_one (w : Word) : w + 1 + 1 = w + 2 := BitVec.add_assoc w 1 1

/-- LDI after its first tick: the extension word is in the holding pair. -/
theorem inFlight_immediate (hs : quiescent s = true) (hclass : classField s.ir0 = 2) :
    InFlight (immediateBundle s.ir0) s (tick s) ⟨true, extensionPhase false, false, s.pc + 1, s.ir1, s.mem⟩ :=
  inFlight_tick_of_quiescent hs (controls_immediate s.flags hclass) (memoryBundle_immediate _) rfl rfl

theorem ramOut_tick_immediate (hs : quiescent s = true) (hclass : classField s.ir0 = 2) :
    (tick s).ramOut = s.memRead (s.pc + 1) := by
  have h1 := inFlight_immediate hs hclass
  have hread : (tick s).ramOut = (tick s).memRead (tick s).pc := tickWith_ramOut_of_extensionPhase h1.phases
  rw [hread, State.memRead, h1.mem, h1.pc, State.memRead]

/-- ST after its fourth tick: its address is in IR1 and the write is requested (R279). -/
theorem inFlight_store (hs : quiescent s = true) (hclass : classField s.ir0 = 3) (hsub : subField s.ir0 = 1) :
    InFlight (storeBundle s.ir0) s (tickN 4 s)
      ⟨false, addressIdlePhase, true, s.pc + 1 + 1, s.memRead (s.pc + 1), s.mem⟩ := by
  have h1 : InFlight (storeBundle s.ir0) s (tick s) ⟨true, extensionPhase false, false, s.pc + 1, s.ir1, s.mem⟩ :=
    inFlight_tick_of_quiescent hs (controls_store s.flags hclass hsub) (memoryBundle_store _) rfl rfl
  have h2 := h1.idle_extension rfl
  have h3 := h2.active_extension rfl rfl
  exact h3.idle_data rfl rfl rfl rfl

/-- STR after its second tick. -/
theorem inFlight_storeIndirect (hs : quiescent s = true) (hclass : classField s.ir0 = 3) (hsub : subField s.ir0 = 2) :
    InFlight (storeIndirectBundle s.ir0) s (tickN 2 s) ⟨false, registerPhase, false, s.pc + 1, s.ir1, s.mem⟩ := by
  have h1 : InFlight (storeIndirectBundle s.ir0) s (tick s) ⟨true, registerPhase, false, s.pc + 1, s.ir1, s.mem⟩ :=
    inFlight_tick_of_quiescent hs (controls_storeIndirect s.flags hclass hsub) (memoryBundle_storeIndirect _) rfl rfl
  exact h1.idle_data rfl rfl rfl rfl

/-- PUSH after its first tick. -/
theorem inFlight_push (hs : quiescent s = true) (hclass : classField s.ir0 = 5) (hsub : subField s.ir0 ≠ 1) :
    InFlight (pushBundle s.ir0) s (tick s) ⟨true, stackPhase, false, s.pc + 1, s.ir1, s.mem⟩ :=
  inFlight_tick_of_quiescent hs (controls_push s.flags hclass hsub) (memoryBundle_push _) rfl rfl

/-- JSR after its third tick: its target is in IR1 and PC is the return address. -/
theorem inFlight_call (hs : quiescent s = true) (hclass : classField s.ir0 = 4) (hsub : subField s.ir0 = 11) :
    InFlight (callBundle s.ir0) s (tickN 3 s)
      ⟨true, stackPhase, false, s.pc + 2, s.memRead (s.pc + 1), s.mem⟩ := by
  have h1 : InFlight (callBundle s.ir0) s (tick s) ⟨true, extensionPhase true, false, s.pc + 1, s.ir1, s.mem⟩ :=
    inFlight_tick_of_quiescent hs (controls_call s.flags hclass hsub) (memoryBundle_call _) rfl rfl
  have h2 := h1.idle_extension rfl
  rw [← add_one_add_one]
  exact h2.active_extension rfl rfl

end Sys2Proof.Machine

/-! ## The obligations -/

namespace Sys2Proof.Proofs

open Sys2Proof.Machine Sys2Proof.Safety

/-- Settles O19: the sixteen instructions are the rows of class 2, which share LDI's effect and ignore srcA and srcB. -/
theorem loadImmediateWritesTheExtensionWord : Obligations.LoadImmediateWritesTheExtensionWord := by
  unfold Obligations.LoadImmediateWritesTheExtensionWord
  intro s d x i hi
  obtain ⟨k, hk, rfl⟩ := exists_sub_of_mem_loadImmediates hi
  have hexec := exec_decodeFields_class2 hk d x s
  refine ⟨⟨k, hk, fun a b => decode_assemble_ext (by decide) hk rfl d a b x⟩, ?sameAsLdi,
    completes_of_exec_setReg_endTwoWords hexec⟩
  case sameAsLdi => exact hexec.trans (exec_decodeFields_class2 (k := 0) (by decide) d x s).symm

/-- Settles O20: LD writes one register, with the word at its extension word. -/
theorem loadAbsolute : Obligations.LoadAbsolute := by
  unfold Obligations.LoadAbsolute
  intro s d x
  exact ⟨fun a b => decode_assemble_ext (by decide) (by decide) rfl d a b x, instrTicks_firstWord_of_class3 rfl,
    completes_of_exec_setReg_endTwoWords (exec_eq_effect (.ld d x) s)⟩

/-- Settles O21: ST's store is the CORE's, at the extension word. -/
theorem storeAbsolute : Obligations.StoreAbsolute := by
  unfold Obligations.StoreAbsolute
  intro s a x hm
  exact ⟨fun d b => decode_assemble_ext (by decide) (by decide) rfl d a b x, rfl, _, exec_eq_effect (.st a x) s,
    (storesWord_memWrite hm _ _).endTwoWords x, endsAt_endTwoWords x rfl⟩

/-- Settles O22: STR's store is the CORE's, at the value of srcB. -/
theorem storeIndirect : Obligations.StoreIndirect := by
  unfold Obligations.StoreIndirect
  intro s a b hm
  exact ⟨fun d => decode_assemble (by decide) (by decide) rfl d a b, instrTicks_firstWord_of_class3 rfl, rfl, _,
    exec_eq_effect (.str a b) s, (storesWord_memWrite hm _ _).endOneWord, endsAt_endOneWord rfl rfl⟩

/-- Settles O23: LDR writes one register, with the word at srcB's value before the write. -/
theorem loadIndirect : Obligations.LoadIndirect := by
  unfold Obligations.LoadIndirect
  intro s d b
  exact ⟨fun a => decode_assemble (by decide) (by decide) rfl d a b, instrTicks_firstWord_of_class3 rfl,
    completes_of_exec_setReg (exec_eq_effect (.ldr d b) s)⟩

/-- Settles O48: the holding pair has the extension word after the first tick, and the second writes it. -/
theorem loadImmediateWritesOnTheSecondTick : Obligations.LoadImmediateWritesOnTheSecondTick := by
  unfold Obligations.LoadImmediateWritesOnTheSecondTick
  intro s hs hclass
  have h1 := inFlight_immediate hs hclass
  have h2 : tickN 2 s = tickWith (tick s) (immediateBundle s.ir0) false := h1.tick_eq
  refine ⟨h1.regs, ?written, ?pc⟩
  case written =>
    have hwrites : idleRegWrite (tick s) (immediateBundle s.ir0) =
        (tick s).setReg (dstField s.ir0) (tick s).ramOut := by
      rw [idleRegWrite, h1.phases]
      rfl
    rw [h2, tickWith_getReg, registerStep, if_neg Bool.false_ne_true, hwrites, State.getReg_setReg_self,
      ramOut_tick_immediate hs hclass]
  case pc => rw [h2, tickWith_pc, if_neg Bool.false_ne_true, h1.pc]

/-- Settles O49: each instruction is in flight up to the tick before its commit, and the commit is the tick after. -/
theorem whenStoresCommit : Obligations.WhenStoresCommit := by
  unfold Obligations.WhenStoresCommit
  intro s hs
  refine ⟨fun hclass hsub => ?st, fun hclass hsub => ?str, fun hclass hsub => ?push, fun hclass hsub => ?jsr⟩
  case st =>
    have h4 := inFlight_store hs hclass hsub
    exact ⟨h4.mem, h4.mem_tick_of_request rfl rfl rfl h4.ramaddrLatch_registerStep_active⟩
  case str =>
    have h2 := inFlight_storeIndirect hs hclass hsub
    exact ⟨h2.mem, h2.mem_tick_of_request rfl rfl rfl (h2.getReg_registerStep_active _)⟩
  case push =>
    have h1 := inFlight_push hs hclass hsub
    have h2 : InFlight _ s (tickN 2 s) _ := h1.idle_push rfl rfl
    obtain ⟨hsp, -⟩ := h2.sp_pc_tick_of_push rfl
    exact ⟨h1.mem, h2.mem, h2.sp, hsp⟩
  case jsr =>
    have h3 := inFlight_call hs hclass hsub
    have h4 : InFlight _ s (tickN 4 s) _ := h3.idle_push rfl rfl
    exact ⟨h3.mem, h4.mem, h4.sp, h4.pc, h4.sp_pc_tick_of_push rfl⟩

end Sys2Proof.Proofs

/-! SUPPORT and PROOFS. The family of spec/43_control_transfer.md: the condition-code multiplexer (R190) and what its
conditions mean after CMP (R191), the conditional jumps (R192 to R201, R204), and JSR and RTS with the way they undo
each other (R202, R203, R213). -/

/-! ## FLAGS after CMP (R191) -/

namespace Sys2Proof.Machine

@[simp] theorem flagZ_compareFlags (a b : Word) : flagZ (compareFlags a b) = (a - b == 0) := flagZ_packFlags _ _ _ _

@[simp] theorem flagN_compareFlags (a b : Word) : flagN (compareFlags a b) = (a - b).msb := flagN_packFlags _ _ _ _

@[simp] theorem flagC_compareFlags (a b : Word) : flagC (compareFlags a b) = subBorrow a b := flagC_packFlags _ _ _ _

@[simp] theorem flagV_compareFlags (a b : Word) : flagV (compareFlags a b) = subOverflow a b (a - b) :=
  flagV_packFlags _ _ _ _

/-- The sign-bit formula of the overflow (D4) is the library's signed overflow of a subtraction. -/
theorem subOverflow_eq_ssubOverflow (a b : Word) : subOverflow a b (a - b) = a.ssubOverflow b := by
  rw [BitVec.ssubOverflow_eq, subOverflow]
  cases a.msb with
  | false => simp
  | true => simp

/-- A subtraction overflows exactly where the integer difference is outside the signed words. -/
theorem subOverflow_iff_outside_signed (a b : Word) :
    subOverflow a b (a - b) = true ↔ a.toInt - b.toInt < -32768 ∨ 32767 < a.toInt - b.toInt := by
  rw [subOverflow_eq_ssubOverflow, BitVec.ssubOverflow, Bool.or_eq_true, decide_eq_true_iff, decide_eq_true_iff]
  omega

/-- N ⊕ V is the signed order. Without overflow the sign of the difference is that of the integer difference; with
overflow it is the wrong one, the operands' signs differ, and the negative operand is the lesser. -/
theorem flagX_compareFlags_iff (a b : Word) : flagX (compareFlags a b) = true ↔ a.toInt < b.toInt := by
  rw [flagX, flagN_compareFlags, flagV_compareFlags]
  cases hv : subOverflow a b (a - b) with
  | false =>
    have hexact : (a - b).toInt = a.toInt - b.toInt :=
      BitVec.toInt_sub_of_not_ssubOverflow (by rw [← subOverflow_eq_ssubOverflow, hv]; exact Bool.false_ne_true)
    rw [Bool.bne_false, BitVec.msb_eq_toInt, hexact, decide_eq_true_iff, sub_neg]
  | true =>
    obtain ⟨hsigns, hwrong⟩ := (subOverflow_iff a b _).mp hv
    have hsign : (!(a - b).msb) = a.msb := Bool.not_eq.mpr hwrong
    rw [Bool.bne_true, hsign]
    simp only [BitVec.msb_eq_toInt, ne_eq, decide_eq_decide, decide_eq_true_iff] at hsigns ⊢
    omega

end Sys2Proof.Machine

/-! ## The length, the words and the effect of a class-4 instruction -/

namespace Sys2Proof.Machine

/-- The lengths of class 4 (R286): a jump, JSR, RTS and an inert word. -/
theorem instrTicks_firstWord_of_class4 {i : Instr} (h : (encodingOf i).cls = 4) :
    instrTicks (firstWord i) = if (encodingOf i).sub ≤ 10 then 4 else if (encodingOf i).sub = 11 then 6
      else if (encodingOf i).sub = 12 then 4 else 2 := by
  simp only [instrTicks, classField_firstWord, subField_firstWord, h]

/-- A jump's two words decode to it, whatever its operand fields hold: class 4 names no register. -/
theorem decode_assemble_jump {i : Instr} {sub : Nat} {x : Word} (hsub : sub ≤ 10)
    (hi : encodingOf i = ⟨4, sub, 0, 0, 0, some x⟩) (d a b : Reg) :
    decode [assemble 4 sub d a b, x] = .instr i [] := by
  have hext : hasExtension 4 sub = true := decide_eq_true (hsub.trans (by decide))
  have hfields : decodeFields 4 sub d a b x = i := by
    rw [← decodeFields_encodingOf i x, hi]
    rfl
  rw [decode_assemble_ext (by decide) (by omega) hext, hfields]

/-- Subopcodes 0 to 10 of class 4 are the multiplexer's entries. -/
theorem effectOf_jump {sub : Nat} (hsub : sub ≤ 10) (x : Word) :
    effectOf ⟨4, sub, 0, 0, 0, some x⟩ = .jump sub x := if_pos hsub

/-- What a return would pop is not moved by the end of the call. -/
theorem State.top_endJump (s : State) (x target : Word) : (s.endJump x target).top = s.top := by
  rw [State.top_eq, State.endJump_sp, State.endJump_memRead, State.top_eq]

end Sys2Proof.Machine

/-! ## What a jump, a call and a return leave -/

namespace Sys2Proof.Safety

open Sys2Proof.Machine

/-- The end of a one-word instruction that sends PC to `target`. -/
theorem endsAt_finishAt {s u : State} (target : Word) (hir1 : u.ir1 = s.ir1) :
    EndsAt s (u.finishAt target) target none :=
  ⟨rfl, hir1, hir1, rfl, rfl, rfl⟩

/-- The end of a two-word instruction that sends PC to `target`. -/
theorem endsAt_endJump (s u : State) (x target : Word) : EndsAt s (u.endJump x target) target (some x) :=
  ⟨rfl, rfl, rfl, rfl, rfl, rfl⟩

/-- A state has its own data. -/
theorem LeavesData.refl (s : State) : LeavesData s s s.flags s.sp :=
  ⟨fun _ => rfl, rfl, rfl, fun _ => rfl, ⟨rfl, rfl⟩, ⟨rfl, rfl, rfl, rfl⟩⟩

namespace LeavesData

variable {s t : State} {f : BitVec 4} {stack : Word}

/-- Ending an instruction moves PC and the latches alone, which the frame of the data does not name. -/
theorem finishAt (h : LeavesData s t f stack) (target : Word) : LeavesData s (t.finishAt target) f stack :=
  { h with ports := { h.ports with }, sequencer := { h.sequencer with } }

theorem endJump (h : LeavesData s t f stack) (x target : Word) : LeavesData s (t.endJump x target) f stack :=
  { h with ports := { h.ports with }, sequencer := { h.sequencer with } }

theorem setSp (h : LeavesData s t f stack) (v : Word) : LeavesData s (t.setSp v) f v :=
  { h with sp := rfl, ports := { h.ports with }, sequencer := { h.sequencer with } }

end LeavesData

namespace StoresWord

variable {s t : State} {a v stack : Word}

theorem setSp (h : StoresWord s t a v stack) (w : Word) : StoresWord s (t.setSp w) a v w :=
  { h with sp := rfl, sequencer := { h.sequencer with } }

theorem endJump (h : StoresWord s t a v stack) (x target : Word) : StoresWord s (t.endJump x target) a v stack :=
  (h.latchIr1 x).finishAt target

end StoresWord

/-- A push is the CORE's store at SP, which then goes down by one (R213, D5). -/
theorem storesWord_push {s : State} (hm : s.mem.wf = true) (v : Word) : StoresWord s (s.push v) s.sp v (s.sp - 1) :=
  (storesWord_memWrite hm s.sp v).setSp _

/-- The jump at subopcode `sub` up to 10 of class 4, where the multiplexer's entry `sub` answers `taken` (R192 to R201,
R204). -/
theorem jump_decodes_and_completes {i : Instr} {sub : Nat} {x : Word} {s : State} {taken : Bool} (hsub : sub ≤ 10)
    (hi : encodingOf i = ⟨4, sub, 0, 0, 0, some x⟩) (htaken : condition sub s.flags = taken) :
    (∀ d a b : Reg, decode [assemble 4 sub d a b, x] = .instr i []) ∧ instrTicks (firstWord i) = 4 ∧
      ∃ t, exec i s = .next t ∧ LeavesData s t s.flags s.sp ∧ EndsAt s t (if taken then x else s.pc + 2) (some x) := by
  have hticks : instrTicks (firstWord i) = 4 := by
    rw [instrTicks_firstWord_of_class4 (by rw [hi]), hi, if_pos hsub]
  have hexec : exec i s = .next (s.endJump x (if taken then x else s.pc + 2)) := by
    rw [exec_eq_effect, hi, effectOf_jump hsub, Effect.run, htaken, jumpIf]
  exact ⟨decode_assemble_jump hsub hi, hticks, _, hexec, (LeavesData.refl s).endJump x _, endsAt_endJump s s x _⟩

end Sys2Proof.Safety

/-! ## The obligations -/

namespace Sys2Proof.Proofs

open Sys2Proof.Machine Sys2Proof.Safety

/-- Settles O13: each flag is an order of the operands, and JNCLT's condition is that neither order holds. -/
theorem compareFlagsMeanTheOrders : Obligations.CompareFlagsMeanTheOrders := by
  unfold Obligations.CompareFlagsMeanTheOrders
  intro a b
  have hC : flagC (compareFlags a b) = true ↔ a.toNat < b.toNat := by rw [flagC_compareFlags, subBorrow_iff]
  have hX := flagX_compareFlags_iff a b
  refine ⟨hC, hX, ?overflow, ?equality, ?neither⟩
  case overflow => rw [flagV_compareFlags, subOverflow_iff_outside_signed]
  case equality => rw [flagZ_compareFlags, beq_iff_eq, sub_eq_zero]
  case neither =>
    rw [condition, Bool.and_eq_true, Bool.not_eq_true', Bool.not_eq_true', ← Bool.not_eq_true, ← Bool.not_eq_true, hC,
      hX, Nat.not_lt, Int.not_lt]

/-- Settles O25: JSR's store is a push of the return address, and its end sends PC to the extension word. -/
theorem callPushesTheReturnAddress : Obligations.CallPushesTheReturnAddress := by
  unfold Obligations.CallPushesTheReturnAddress
  intro s x hm
  exact ⟨fun d a b => decode_assemble_ext (by decide) (by decide) rfl d a b x, rfl, _, exec_eq_effect (.jsr x) s,
    (storesWord_push hm _).endJump x x, endsAt_endJump s _ x x⟩

/-- Settles O52: RTS takes PC from the top of the stack, which is the word JSR pushed. -/
theorem returnUndoesCall : Obligations.ReturnUndoesCall := by
  unfold Obligations.ReturnUndoesCall
  intro s t u x hm hjsr hrts
  have ht : t = (s.push (s.pc + 2)).endJump x x := eq_run_of_exec hjsr
  have hu : u = t.drop.finishAt t.top := eq_run_of_exec hrts
  refine ⟨?pc, ?sp⟩
  case pc => rw [hu, State.finishAt_pc, ht, State.top_endJump, State.top_push hm]
  case sp =>
    rw [hu, State.finishAt_sp, State.drop_sp, ht, State.endJump_sp, State.push_sp, BitVec.sub_add_cancel]

/-- Settles O12: the formulas are the multiplexer's entries, and each row of the table lists its entry's sixteen
values. -/
theorem conditionTable : Obligations.ConditionTable := by
  unfold Obligations.ConditionTable
  intro f
  refine ⟨⟨rfl, ?row0⟩, ⟨rfl, ?row1⟩, ⟨rfl, ?row2⟩, ⟨rfl, ?row3⟩, ⟨rfl, ?row4⟩, ⟨rfl, ?row5⟩, ⟨rfl, ?row6⟩,
    ⟨rfl, ?row7⟩, ⟨rfl, ?row8⟩, ⟨rfl, ?row9⟩, ⟨rfl, ?row10⟩, ⟨rfl, ?row11⟩⟩
  all_goals
    revert f
    decide

/-- Settles O24: one lemma for the eleven subopcodes, each with its entry of the multiplexer. -/
theorem conditionalJumps : Obligations.ConditionalJumps := by
  unfold Obligations.ConditionalJumps
  intro s x
  refine ⟨?jmp, ?jc, ?jnc, ?jv, ?jcv, ?jncv, ?jnv, ?jlt, ?jclt, ?jnclt, ?jlta⟩
  all_goals exact jump_decodes_and_completes (by decide) rfl rfl

/-- Settles O26: RTS moves SP alone and ends at the word above the old SP. -/
theorem returnPopsThePc : Obligations.ReturnPopsThePc := by
  unfold Obligations.ReturnPopsThePc
  intro s
  exact ⟨decode_assemble (by decide) (by decide) rfl, instrTicks_firstWord_of_class4 rfl, _, exec_eq_effect .rts s,
    ((LeavesData.refl s).setSp _).finishAt _, endsAt_finishAt _ rfl⟩

end Sys2Proof.Proofs

/-! SUPPORT and PROOFS. The family of spec/44_stack.md: PUSH under its fifteen subopcodes (R210, R212), POP (R211), and
a pop that undoes a push (R213, D5). -/

/-! ## The words of a PUSH -/

namespace Sys2Proof

open Safety

/-- A class-5 word with a subopcode other than 1 keeps srcA alone (R96). -/
theorem canonicalEncoding_push {k : Nat} (hne : k ≠ 1) (d a b : Reg) (x : Word) :
    canonicalEncoding 5 k d a b x = ⟨5, k, 0, a, 0, none⟩ := by
  have hformat : formatOf 5 k = ⟨false, true, false⟩ := if_neg hne
  rw [canonicalEncoding, hformat]
  rfl

/-- The fifteen PUSH instructions are the rows of class 5 but POP's. -/
theorem pushes_eq_map (a : Reg) :
    pushes a = ((List.range 16).filter (· ≠ 1)).map fun k => decodeFields 5 k 0 a 0 0 := rfl

theorem encodingOf_of_mem_pushes {i : Instr} {a : Reg} (h : i ∈ pushes a) :
    ∃ k, k < 16 ∧ k ≠ 1 ∧ encodingOf i = ⟨5, k, 0, a, 0, none⟩ := by
  rw [pushes_eq_map] at h
  obtain ⟨k, hmem, rfl⟩ := List.mem_map.mp h
  obtain ⟨hrange, hne⟩ := List.mem_filter.mp hmem
  have hk : k < 16 := List.mem_range.mp hrange
  have hpush : k ≠ 1 := of_decide_eq_true hne
  exact ⟨k, hk, hpush, by rw [encodingOf_decodeFields (by decide) hk, canonicalEncoding_push hpush]⟩

/-- A PUSH's word decodes to it, whatever its dst and srcB fields hold. -/
theorem decode_assemble_push {i : Instr} {k : Nat} {a : Reg} (hk : k < 16) (hne : k ≠ 1)
    (hi : encodingOf i = ⟨5, k, 0, a, 0, none⟩) (d b : Reg) : decode [assemble 5 k d a b] = .instr i [] := by
  have hfields : decodeFields 5 k d a b 0 = i := by
    apply encodingOf_injective
    rw [encodingOf_decodeFields (by decide) hk, canonicalEncoding_push hne, hi]
  rw [decode_assemble (by decide) hk rfl, hfields]

end Sys2Proof

/-! ## The effect of a PUSH -/

namespace Sys2Proof.Machine

/-- Every class-5 subopcode but 1 has PUSH's effect (R212). -/
theorem exec_of_encodingOf_push {i : Instr} {k : Nat} {a : Reg} (hne : k ≠ 1)
    (hi : encodingOf i = ⟨5, k, 0, a, 0, none⟩) (s : State) :
    exec i s = .next (s.push (s.getReg a)).endOneWord := by
  have heffect : effectOf (encodingOf i) = .push a := by
    rw [hi]
    exact if_neg hne
  rw [exec_eq_effect, heffect, Effect.run, pushReg]

/-- What a pop would read is not moved by the end of the push. -/
theorem State.top_endOneWord (s : State) : s.endOneWord.top = s.top := by
  rw [State.top_eq, State.endOneWord_sp, State.endOneWord_memRead, State.top_eq]

end Sys2Proof.Machine

/-! ## What a pop leaves -/

namespace Sys2Proof.Safety

open Sys2Proof.Machine

/-- The frame of a register write may start before SP is moved: it names SP at its end alone. -/
theorem WritesRegister.of_setSp {s t : State} {d : Reg} {v w stack : Word}
    (h : WritesRegister (s.setSp w) t d v stack) : WritesRegister s t d v stack :=
  { h with ports := { h.ports with }, sequencer := { h.sequencer with } }

/-- A pop is a register write from the state whose SP has gone up by one (R213, D5). -/
theorem writesRegister_pop (s : State) (d : Reg) :
    WritesRegister s (s.drop.setReg d s.top).endOneWord d (s.memRead (s.sp + 1)) (s.sp + 1) :=
  WritesRegister.of_setSp (writesRegister_setReg_endOneWord s.drop d s.top)

end Sys2Proof.Safety

/-! ## The obligations -/

namespace Sys2Proof.Proofs

open Sys2Proof.Machine Sys2Proof.Safety

/-- Settles O27: the fifteen instructions differ in their subopcode alone, which selects one effect for all of them. -/
theorem pushStoresAtSp : Obligations.PushStoresAtSp := by
  unfold Obligations.PushStoresAtSp
  intro s a hm
  refine ⟨rfl, fun i hi => ?_⟩
  obtain ⟨k, hk, hne, henc⟩ := encodingOf_of_mem_pushes hi
  have hexec := exec_of_encodingOf_push hne henc s
  refine ⟨⟨k, hk, hne, decode_assemble_push hk hne henc⟩, ?sameAsPush, _, hexec,
    (storesWord_push hm _).endOneWord, endsAt_endOneWord rfl rfl⟩
  case sameAsPush => exact hexec.trans (exec_eq_effect (.push a) s).symm

/-- Settles O51: POP reads the top of the stack, which is the word PUSH stored, and adds back the one PUSH took off SP. -/
theorem popUndoesPush : Obligations.PopUndoesPush := by
  unfold Obligations.PopUndoesPush
  intro s t u a d hm hpush hpop
  have ht : t = (s.push (s.getReg a)).endOneWord := eq_run_of_exec hpush
  have hu : u = (t.drop.setReg d t.top).endOneWord := eq_run_of_exec hpop
  refine ⟨?word, ?sp⟩
  case word =>
    rw [hu, State.endOneWord_getReg, State.getReg_setReg_self, ht, State.top_endOneWord, State.top_push hm]
  case sp =>
    rw [hu, State.endOneWord_sp, State.setReg_sp, State.drop_sp, ht, State.endOneWord_sp, State.push_sp,
      BitVec.sub_add_cancel]

/-- Settles O28: POP is a register write above the moved SP, and its word decodes by dst alone. -/
theorem popLoadsAboveSp : Obligations.PopLoadsAboveSp := by
  unfold Obligations.PopLoadsAboveSp
  intro s d
  exact ⟨decode_assemble (by decide) (by decide) rfl d, _, exec_eq_effect (.pop d) s, writesRegister_pop s d,
    endsAt_endOneWord rfl rfl⟩

end Sys2Proof.Proofs

/-! SUPPORT and PROOFS. The family of spec/45_io_system.md: the inert instructions (R220, and R151, R176, R205, R221,
R226), HLT at the instruction level (R222), IN (R224, with R45 and R332) and OUT (R225, with R46). -/

/-! ## The undefined rows of the opcode table -/

namespace Sys2Proof

open Machine Safety

/-- The class and subopcode pairs to which the class table gives no effect (R220). -/
abbrev UndefinedPair (c k : Nat) : Prop :=
  c = 1 ∧ k ≠ 10 ∧ k ≠ 11 ∨ c = 3 ∧ 4 ≤ k ∨ c = 4 ∧ 13 ≤ k ∨ c = 6 ∨ c = 7 ∧ 7 ≤ k

/-- The inert instructions are the undefined rows, in the table's order. -/
theorem inertInstrs_eq_map :
    inertInstrs = ((List.range 8 ×ˢ List.range 16).filter fun r => UndefinedPair r.1 r.2).map
      fun r => decodeFields r.1 r.2 0 0 0 0 := rfl

/-- An undefined row names no operand field (R96). -/
theorem formatOf_of_undefined {c k : Nat} (h : UndefinedPair c k) : formatOf c k = ⟨false, false, false⟩ := by
  obtain ⟨rfl, hcmp, hnot⟩ | ⟨rfl, hk⟩ | ⟨rfl, -⟩ | rfl | ⟨rfl, hk⟩ := h
  · exact (if_neg hcmp).trans (if_neg hnot)
  · obtain ⟨j, rfl⟩ := Nat.exists_eq_add_of_le' hk
    rfl
  · rfl
  · rfl
  · obtain ⟨j, rfl⟩ := Nat.exists_eq_add_of_le' hk
    rfl

/-- An undefined row has no extension word (R90). -/
theorem hasExtension_of_undefined {c k : Nat} (h : UndefinedPair c k) : hasExtension c k = false := by
  rw [Bool.eq_false_iff, ne_eq, hasExtension_iff]
  omega

theorem canonicalEncoding_of_undefined {c k : Nat} (h : UndefinedPair c k) (d a b : Reg) (x : Word) :
    canonicalEncoding c k d a b x = ⟨c, k, 0, 0, 0, none⟩ := by
  rw [canonicalEncoding, formatOf_of_undefined h, hasExtension_of_undefined h]
  rfl

theorem encodingOf_of_mem_inertInstrs {i : Instr} (h : i ∈ inertInstrs) :
    ∃ c k, c < 8 ∧ k < 16 ∧ UndefinedPair c k ∧ encodingOf i = ⟨c, k, 0, 0, 0, none⟩ := by
  rw [inertInstrs_eq_map] at h
  obtain ⟨⟨c, k⟩, hrow, rfl⟩ := List.mem_map.mp h
  obtain ⟨hrange, hundefined⟩ := List.mem_filter.mp hrow
  obtain ⟨hc, hk⟩ := List.mem_product.mp hrange
  have hpair : UndefinedPair c k := of_decide_eq_true hundefined
  rw [List.mem_range] at hc hk
  exact ⟨c, k, hc, hk, hpair, by rw [encodingOf_decodeFields hc hk, canonicalEncoding_of_undefined hpair]⟩

/-- An undefined row's word decodes to its instruction, whatever its operand fields hold. -/
theorem decode_assemble_undefined {i : Instr} {c k : Nat} (hc : c < 8) (hk : k < 16) (h : UndefinedPair c k)
    (hi : encodingOf i = ⟨c, k, 0, 0, 0, none⟩) (d a b : Reg) : decode [assemble c k d a b] = .instr i [] := by
  have hfields : decodeFields c k d a b 0 = i := by
    apply encodingOf_injective
    rw [encodingOf_decodeFields hc hk, canonicalEncoding_of_undefined h, hi]
  rw [decode_assemble hc hk (hasExtension_of_undefined h), hfields]

end Sys2Proof

/-! ## The length, the bundle and the effect of the system instructions -/

namespace Sys2Proof.Machine

variable {s : State} {i : Instr} {d a : Reg} {p : Port} {k : Nat}

theorem dstField_firstWord (i : Instr) : dstField (firstWord i) = (encodingOf i).dst :=
  dstField_assemble (encodingFits i).1 (encodingFits i).2.1 _ _ _

/-- An undefined word takes one cycle, two ticks (R286). -/
theorem instrTicks_of_undefined {w : Word} (h : UndefinedPair (classField w) (subField w)) : instrTicks w = 2 := by
  unfold instrTicks
  split
  case h_1 hclass => omega
  case h_2 => rw [if_neg (by omega), if_neg (by omega)]
  case h_3 => rw [if_neg (by omega), if_neg (by omega), if_neg (by omega)]
  case h_4 hclass => omega
  case h_5 => rfl

theorem instrTicks_firstWord_of_class7 (h : (encodingOf i).cls = 7) : instrTicks (firstWord i) = 2 := by
  simp only [instrTicks, classField_firstWord, h]

theorem effectOf_of_undefined {e : Encoding} (h : UndefinedPair e.cls e.sub) : effectOf e = .inert := by
  unfold effectOf
  split
  case h_2 => rw [if_neg (by omega), if_neg (by omega)]
  case h_4 => rw [if_neg (by omega), if_neg (by omega), if_neg (by omega), if_neg (by omega)]
  case h_5 => rw [if_neg (by omega), if_neg (by omega), if_neg (by omega)]
  case h_7 => rw [if_neg (by omega), if_neg (by omega), if_neg (by omega)]
  case h_8 => rfl
  all_goals omega

theorem exec_of_effectOf_input (h : effectOf (encodingOf i) = .input d p) (s : State) :
    exec i s = .next (s.input d p).endOneWord := by
  rw [exec_eq_effect, h, Effect.run]

theorem exec_of_effectOf_output (h : effectOf (encodingOf i) = .output a p) (s : State) :
    exec i s = .next (s.output p (s.getReg a)).endOneWord := by
  rw [exec_eq_effect, h, Effect.run]

/-- IN's row (R241). -/
def inputBundle (w : Word) : Controls :=
  { inertControls w with useIn := true, regWrite := true, ioPort := portOf (subField w - 1) }

theorem controls_input {w : Word} (f : BitVec 4) (h : classField w = 7) (hpos : subField w ≠ 0)
    (hsub : subField w ≤ 3) : controls w f = inputBundle w := by
  rw [controls_of_class7 f h, controlsClass7, if_neg hpos, if_pos hsub, inputBundle]

/-! ## The read-ahead of a halted machine (R291) -/

/-- Reading the word that the holding pair already holds changes nothing (R280). -/
theorem State.readAhead_of_held {x : Word} (haddr : s.ramAddr = x) (hout : s.ramOut = s.memRead x) :
    s.readAhead x = s := by
  subst haddr
  rw [State.readAhead, ← hout]

theorem State.fetchNext_of_latched (h : Safety.Latched s) : s.fetchNext = s := by
  rw [State.fetchNext, State.readAhead_of_held h.ramAddr h.ramOut, ← h.ir0]
  rfl

/-! ## Sampling an input port (R45, R224, R332) -/

/-- A draw is used up where the host has set nothing (log entry 1). -/
theorem State.input_inDraws (s : State) (d : Reg) (p : Port) :
    (s.input d p).inDraws = match s.inPins.pin p with | some _ => s.inDraws | none => s.inDraws + 1 := by
  rw [State.input, State.setReg_inDraws, State.afterSample_inDraws]
  cases s.inPins.pin p with
  | none => rfl
  | some v => rfl

theorem State.getReg_input_self (s : State) (d : Reg) (p : Port) : (s.input d p).getReg d = s.portValue p := by
  rw [State.getReg_input, if_pos rfl]

/-- The sample of a port just set uses up no draw. -/
theorem input_inDraws_setInputPort (s : State) (d : Reg) (p : Port) (v : Word) :
    ((setInputPort s p v).input d p).inDraws = s.inDraws := by
  rw [State.input_inDraws, setInputPort, InputPins.pin_set, if_pos rfl]

theorem portValue_setInputPort_self (s : State) (p : Port) (v : Word) : (setInputPort s p v).portValue p = v := by
  rw [portValue_setInputPort, if_pos rfl]

/-- The first tick of an IN samples its port (R262). -/
theorem getReg_tick_of_input (hs : quiescent s = true) (hir0 : s.ir0 = firstWord i)
    (hi : encodingOf i = ⟨7, k, d, 0, 0, none⟩) (hpos : k ≠ 0) (hk : k ≤ 3) :
    (tick s).getReg d = s.portValue (portOf (k - 1)) := by
  obtain ⟨hclk, hphases, -⟩ := (quiescent_iff s).mp hs
  have hclass : classField s.ir0 = 7 := by rw [hir0, classField_firstWord, hi]
  have hsub : subField s.ir0 = k := by rw [hir0, subField_firstWord, hi]
  have hdst : dstField s.ir0 = d := by rw [hir0, dstField_firstWord, hi]
  have hbundle : controls s.ir0 s.flags = inputBundle s.ir0 :=
    controls_input s.flags hclass (by rwa [hsub]) (by rwa [hsub])
  have htick : tick s = tickWith s (inputBundle s.ir0) true := by
    rw [tick, hbundle, hclk]
    rfl
  have hwrite : activeRegWrite s (inputBundle s.ir0) = s.input d (portOf (k - 1)) := by
    simp [activeRegWrite, inputBundle, inertControls, hphases, Phases.first, Phases.none, hdst, hsub]
  rw [htick, State.getReg, tickWith_regs, registerStep_regs, if_pos rfl, hwrite]
  exact State.getReg_input_self s d _

/-- An idle half writes a register from the holding pair alone (R262). -/
theorem idleRegWrite_regs_setInputPort (s : State) (p : Port) (v : Word) (e : Controls) :
    (idleRegWrite (setInputPort s p v) e).regs = (idleRegWrite s e).regs := by
  unfold idleRegWrite
  rw [setInputPort_phases]
  split
  · rfl
  · rfl

theorem tick_of_clk (hclk : s.clk = true) : tick s = tickWith s (controls s.ir0 s.flags) false := by
  rw [tick, hclk]
  rfl

/-- A port set before an idle half is not seen by it (R332). -/
theorem regs_tick_setInputPort_idle (hclk : s.clk = true) (p : Port) (v : Word) :
    (tick (setInputPort s p v)).regs = (tick s).regs := by
  have hset : (setInputPort s p v).clk = true := hclk
  rw [tick_of_clk hset, tick_of_clk hclk, tickWith_regs, tickWith_regs, registerStep_regs,
    registerStep_regs, if_neg Bool.false_ne_true, if_neg Bool.false_ne_true]
  exact idleRegWrite_regs_setInputPort s p v _

theorem clk_tick (s : State) : (tick s).clk = !s.clk := tickWith_clk s _ _

/-! ## What an output port shows (R46) -/

/-- The event of an OUT decides what its port shows, and no other port's. -/
theorem portShows_append_outPort (q p : Port) (es : List Event) (v : Word) :
    portShows q (es ++ [.outPort p v]) = if q = p then some v else portShows q es := by
  rw [portShows_append, portShows]
  by_cases h : q = p
  · rw [if_pos h, if_pos h.symm]
    rfl
  · rw [if_neg h, if_neg fun e => h e.symm]
    rfl

end Sys2Proof.Machine

/-! ## What the system instructions leave -/

namespace Sys2Proof.Safety

open Sys2Proof.Machine

/-- The fetch moves the latches alone. -/
theorem LeavesData.fetchNext {s t : State} {f : BitVec 4} {stack : Word} (h : LeavesData s t f stack) :
    LeavesData s t.fetchNext f stack :=
  { h with ports := { h.ports with }, sequencer := { h.sequencer with } }

/-- After the fetch the latches hold the word at PC (R290). -/
theorem latched_fetchNext (s : State) : Latched s.fetchNext := ⟨rfl, rfl, rfl⟩

theorem keepsRegsBut_input (s : State) (d : Reg) (p : Port) : KeepsRegsBut s (s.input d p).endOneWord d := by
  intro r hr
  rw [State.endOneWord_getReg, State.getReg_input, if_neg hr]

theorem keepsSequencer_input (s : State) (d : Reg) (p : Port) : KeepsSequencer s (s.input d p).endOneWord :=
  ⟨State.input_phases s d p, State.input_wl s d p, State.input_clk s d p, State.input_inPins s d p⟩

end Sys2Proof.Safety

/-! ## The obligations -/

namespace Sys2Proof.Proofs

open Sys2Proof.Machine Sys2Proof.Safety

/-- Settles O18: the 54 instructions are the undefined rows, and every such row selects the inert effect. -/
theorem inertInstructionsOnlyAdvance : Obligations.InertInstructionsOnlyAdvance := by
  unfold Obligations.InertInstructionsOnlyAdvance
  intro s i hi
  obtain ⟨c, k, hc, hk, hpair, henc⟩ := encodingOf_of_mem_inertInstrs hi
  have hundefined : UndefinedPair (encodingOf i).cls (encodingOf i).sub := by rwa [henc]
  refine ⟨hundefined, ?decodes, ?ticks, s.endOneWord, ?completes, (LeavesData.refl s).finishAt _,
    endsAt_endOneWord rfl rfl⟩
  case decodes =>
    rw [henc]
    exact decode_assemble_undefined hc hk hpair henc
  case ticks => exact instrTicks_of_undefined (by rwa [classField_firstWord, subField_firstWord])
  case completes => rw [exec_eq_effect, effectOf_of_undefined hundefined, Effect.run, execInert]

/-- Settles O29: HLT is the fetch of the word at PC, which is the identity where the latches hold that word. -/
theorem haltChangesNothing : Obligations.HaltChangesNothing := by
  unfold Obligations.HaltChangesNothing
  intro s
  have hexec : exec .hlt s = .next s.fetchNext := exec_eq_effect .hlt s
  refine ⟨decode_assemble (by decide) (by decide) rfl,
    ⟨_, hexec, (LeavesData.refl s).fetchNext, rfl, rfl, rfl, latched_fetchNext s⟩, fun hlatched => ?identity⟩
  case identity => rw [hexec, State.fetchNext_of_latched hlatched]

/-- Settles O30: each IN is one sample of its port, made on its first tick; the second is an idle half, which reads no
port. -/
theorem inReadsThePort : Obligations.InReadsThePort := by
  unfold Obligations.InReadsThePort
  intro s d
  refine ⟨?inA, ?inB, ?inC⟩
  all_goals
    refine ⟨fun a b => decode_assemble (by decide) (by decide) rfl d a b, instrTicks_firstWord_of_class7 rfl, _,
      exec_of_effectOf_input rfl s, ?written, ?draws, keepsRegsBut_input s d _, State.input_sp s d _,
      State.input_flags s d _, State.input_memRead s d _, State.input_events s d _, keepsSequencer_input s d _,
      endsAt_endOneWord (State.input_pc s d _) (State.input_ir1 s d _), fun v => ⟨?others, ?sampled, ?ticks⟩⟩
    case written => exact (State.endOneWord_getReg _ d).trans (State.getReg_input_self s d _)
    case draws => exact (State.endOneWord_inDraws _).trans (State.input_inDraws s d _)
    case others => exact fun q => portValue_setInputPort s _ q v
    case sampled =>
      exact ⟨_, exec_of_effectOf_input rfl _,
        (State.getReg_input_self _ d _).trans (portValue_setInputPort_self s _ v),
        input_inDraws_setInputPort s d _ v, keepsRegsBut_input (setInputPort s _ v) d _⟩
    case ticks =>
      intro hs hir0
      obtain ⟨hclk, -, -⟩ := (quiescent_iff s).mp hs
      refine ⟨?first, ?second⟩
      case first =>
        exact (getReg_tick_of_input (s := setInputPort s _ v) hs hir0 rfl (by decide) (by decide)).trans
          (portValue_setInputPort_self s _ v)
      case second => exact regs_tick_setInputPort_idle (by rw [clk_tick, hclk, Bool.not_false]) _ v

/-- Settles O31: each OUT is one event and the end of the instruction, which touches no field that a frame names, so
that each frame is read off. -/
theorem outEmitsOneEvent : Obligations.OutEmitsOneEvent := by
  unfold Obligations.OutEmitsOneEvent
  intro s a
  refine ⟨?outA, ?outB, ?outC⟩
  all_goals exact ⟨fun d b => decode_assemble (by decide) (by decide) rfl d a b, _,
    exec_of_effectOf_output rfl s, rfl, rfl, fun _ => rfl, rfl, rfl, fun _ => rfl, ⟨rfl, rfl, rfl, rfl⟩,
    endsAt_endOneWord rfl rfl, fun q => portShows_append_outPort q _ s.events (s.getReg a)⟩

end Sys2Proof.Proofs

/-! SUPPORT and PROOFS. The family of spec/46_sequencer.md: the step at a boundary (R290), the cycles of every
instruction and the refinement of the step by the ticks (R281, R285, R286, R292), their events (R283), the halted state
(R291) and the phase flags (R252). -/

/-! ## A step at a boundary (R290) -/

namespace Sys2Proof

/-- Where R90's list gives no extension word, the decoder does not look at one. -/
theorem decodePair_of_not_hasExtension {w : Word} (h : hasExtension (classField w) (subField w) = false) (x y : Word) :
    decodePair w x = decodePair w y := by
  apply encodingOf_injective
  rw [encodingOf_decodePair, encodingOf_decodePair, canonicalEncoding, canonicalEncoding, h]
  rfl

/-- What the list decoder reads from two words is the instruction of the pair. -/
theorem decodePair_of_decode {w x : Word} {i : Instr} {rest : List Word} (h : decode [w, x] = .instr i rest) :
    decodePair w x = i := by
  rw [decode_two_words] at h
  split_ifs at h with hext
  · exact (Decoded.instr.inj h).1
  · rw [decodePair_of_not_hasExtension (Bool.eq_false_iff.mpr hext) x 0]
    exact (Decoded.instr.inj h).1

namespace Machine

open Safety

variable {s : State}

theorem step_of_quiescent (h : quiescent s = true) : step s = exec (fetched s) s := if_pos h

/-- The effect of the instruction that a boundary state holds. -/
def State.nextEffect (s : State) : Effect := effectOf (encodingOf (fetched s))

theorem step_eq_run (h : quiescent s = true) : step s = .next (s.nextEffect.run s) := by
  rw [step_of_quiescent h, exec_eq_effect, State.nextEffect]

theorem keepsSequencer_run (f : Effect) (s : State) : KeepsSequencer s (f.run s) := by
  constructor
  all_goals cases f <;>
    simp [Effect.run, aluToReg, zeroToReg, loadImmediate, jumpIf, pushReg, execInert]

theorem atBoundary_of_quiescent (h : quiescent s = true) : atBoundary s = true := (Bool.and_eq_true_iff.mp h).1

theorem quiescent_run (f : Effect) (h : quiescent s = true) : quiescent (f.run s) = true := by
  obtain ⟨hphases, hwl, hclk, -⟩ := keepsSequencer_run f s
  rwa [quiescent_iff, hphases, hwl, hclk, ← quiescent_iff]

/-- Every effect ends with the fetch of the next instruction's word. -/
theorem latched_run (f : Effect) (s : State) : Latched (f.run s) := by
  cases f <;> exact latched_fetchNext _

theorem wf_run (f : Effect) (h : s.mem.wf = true) : (f.run s).mem.wf = true := by
  rw [Effect.run_mem]
  cases f.stores s with
  | none => exact h
  | some w => exact Memory.wf_write h w.1 w.2

theorem inv_run (f : Effect) (h : Inv s) : Inv (f.run s) :=
  ⟨wf_run f h.memory, quiescent_run f h.quiescent, latched_run f s⟩

/-! The two words placed at PC (log entry 5). -/

theorem quiescent_placeInstruction (s : State) (bits : Nat) : quiescent (placeInstruction s bits) = true := rfl

theorem fetched_placeInstruction (hm : s.mem.wf = true) (bits : Nat) :
    fetched (placeInstruction s bits) = decodePair (BitVec.ofNat 16 bits) (BitVec.ofNat 16 (bits / 2 ^ 16)) := by
  have hpc : (placeInstruction s bits).pc = s.pc := rfl
  have hir0 : (placeInstruction s bits).ir0 = BitVec.ofNat 16 bits := rfl
  rw [fetched, extensionWord, hpc, hir0, placeInstruction, State.setClock_memRead, State.setWl_memRead,
    State.latchIr0_memRead, State.memRead_setWord_self (State.wf_setWord hm _ _)]

theorem decode_of_decodeTableWord {nbits w : Nat} {i : Instr} (h : decodeTableWord nbits w = some i) :
    ∃ rest, decode [BitVec.ofNat 16 (w % 2 ^ nbits), BitVec.ofNat 16 (w % 2 ^ nbits / 2 ^ 16)] = .instr i rest := by
  unfold decodeTableWord at h
  split at h
  case h_1 j rest hdecode => exact ⟨rest, by rw [hdecode, Option.some.inj h]⟩
  case h_2 => exact absurd h (by simp)

end Machine

end Sys2Proof

/-! ## One tick under the bundle it began with (R281) -/

namespace Sys2Proof.Machine

variable {t : State} {d : Controls} {c : Bool}

/-- CMP alone writes FLAGS, and it is no jump. -/
theorem not_jump_of_flagsWrite {w : Word} {f : BitVec 4} (h : (controls w f).flagsWrite = true) :
    ¬(classField w = 4 ∧ subField w ≤ 10) := by
  rintro ⟨h4, hjump⟩
  rw [controls_of_class4 f h4, controlsClass4_of_jump f _ hjump] at h
  exact Bool.false_ne_true h

/-- The re-decode of step 7 gives the bundle of step 1 again: where FLAGS has changed, the bundle does not depend on
FLAGS (R94). -/
theorem controls_registerStep (h : controls t.ir0 t.flags = d) : controls t.ir0 (registerStep t d c).flags = d := by
  rw [registerStep_flags, nextFlags]
  split_ifs with _ hwrite
  · rw [← h] at hwrite
    rw [controls_eq_of_not_jump _ t.flags (not_jump_of_flagsWrite (Bool.and_eq_true_iff.mp hwrite).2), h]
  · exact h
  · exact h

/-- Steps 7 to 9 of a tick on `u`, the state after the write of step 6: the read-ahead, the instruction latches and
the output port; then the write latch, the clock bit and the phase flags take their new values. -/
def State.endTick (u : State) (d : Controls) (c clk wl : Bool) (n : Phases) : State :=
  (portStep d (latchStep n c ((u.setWl wl).readAhead (arbiterAddress n d u)))).setClock clk n

/-- The half-cycle with bundle `d` and gated clock `c` from `t`. -/
def State.halfCycle (t : State) (d : Controls) (c : Bool) : State :=
  (afterWrite t d c).endTick d c (!t.clk) (nextWl t.wl d (nextPhases t.phases d c) c) (nextPhases t.phases d c)

theorem tick_eq_halfCycle (h : controls t.ir0 t.flags = d) (hc : (!t.clk && !d.hlt) = c) :
    tick t = t.halfCycle d c := by
  have hredecode : controls (afterWrite t d c).ir0 (afterWrite t d c).flags = d := by
    rw [afterWrite, ramWriteStep_ir0, ramWriteStep_flags, registerStep_ir0, controls_registerStep h]
  rw [tick, h, hc, tickWith, ← afterWrite, State.setWl_ir0, State.setWl_flags, hredecode]
  rfl

/-- One clock cycle: an active half and an idle half. -/
def State.cycle (t : State) (d : Controls) : State := (t.halfCycle d true).halfCycle d false

theorem tick_tick_eq_cycle (hclk : t.clk = false) (h : controls t.ir0 t.flags = d) (hhlt : d.hlt = false) :
    tick (tick t) = t.cycle d := by
  have hactive : tick t = t.halfCycle d true := tick_eq_halfCycle h (by rw [hclk, hhlt]; rfl)
  have hdecode : controls (tick t).ir0 (tick t).flags = d := by
    have htick : tick t = tickWith t d true := by rw [tick, h, hclk, hhlt]; rfl
    rw [htick, tickWith_ir0_active, tickWith_flags, ← registerStep_flags, controls_registerStep h]
  rw [tick_eq_halfCycle (c := false) hdecode (by rw [clk_tick, hclk]; rfl), hactive, State.cycle]

end Sys2Proof.Machine

/-! ## The opcode table, row by row (R241, R286) -/

namespace Sys2Proof.Machine

variable {w : Word}

/-! The bundles that have no name yet. -/

/-- The row of a class-0 operation and of NOT. -/
def aluBundle (w : Word) (op : BitVec 4) : Controls :=
  { inertControls w with aluOp := op, aluEn := true, regWrite := true, aluWb := true }

/-- ZERO's row, the same for its six subopcodes. -/
def zeroBundle (w : Word) : Controls := { inertControls w with regWrite := true, aluWb := true }

/-- CMP's row. -/
def compareBundle (w : Word) : Controls := { inertControls w with aluOp := 1, aluEn := true, flagsWrite := true }

/-- LD's row. -/
def loadBundle (w : Word) : Controls :=
  { inertControls w with containsAddress := true, isNxtExt := true, memToReg := true, regWrite := true }

/-- LDR's row. -/
def loadIndirectBundle (w : Word) : Controls :=
  { inertControls w with containsAddress := true, regIsAddress := true, memToReg := true, regWrite := true }

/-- The row of a conditional jump. -/
def jumpBundle (w : Word) (taken : Bool) : Controls :=
  { inertControls w with loadPC := true, isNxtExt := true, containsAddress := taken }

/-- RTS's row. -/
def returnBundle (w : Word) : Controls :=
  { inertControls w with loadPC := true, rts := true, spPop := true, spChange := true }

/-- POP's row. -/
def popBundle (w : Word) : Controls :=
  { inertControls w with
    spChange := true, spPop := true, regWrite := true, containsAddress := true, memToReg := true }

/-- IN's row, by its port. -/
def inBundle (w : Word) (p : Port) : Controls := { inertControls w with useIn := true, regWrite := true, ioPort := p }

/-- OUT's row, by its port. -/
def outBundle (w : Word) (p : Port) : Controls := { inertControls w with useOut := true, ioPort := p }

/-- HLT's row. -/
def haltBundle (w : Word) : Controls := { inertControls w with hlt := true }

/-- The rows of the opcode table but HLT's: the effect of the instruction with first word `w` and extension word `x`,
its bundle, and its ticks. -/
inductive Row (w x : Word) (flags : BitVec 4) : Effect → Controls → Nat → Prop where
  | alu (op : BitVec 4) : Row w x flags (.alu op (dstField w) (srcAField w) (srcBField w)) (aluBundle w op) 2
  | not : Row w x flags (.alu 11 (dstField w) (srcAField w) (srcAField w)) (aluBundle w 11) 2
  | zero : Row w x flags (.zero (dstField w)) (zeroBundle w) 2
  | compare : Row w x flags (.compare (srcAField w) (srcBField w)) (compareBundle w) 2
  | immediate : Row w x flags (.immediate (dstField w) x) (immediateBundle w) 4
  | load : Row w x flags (.load (dstField w) x) (loadBundle w) 6
  | store : Row w x flags (.store (srcAField w) x) (storeBundle w) 6
  | storeIndirect : Row w x flags (.storeIndirect (srcAField w) (srcBField w)) (storeIndirectBundle w) 4
  | loadIndirect : Row w x flags (.loadIndirect (dstField w) (srcBField w)) (loadIndirectBundle w) 4
  | jump (sub : Nat) : Row w x flags (.jump sub x) (jumpBundle w (condition sub flags)) 4
  | call : Row w x flags (.call x) (callBundle w) 6
  | ret : Row w x flags .ret (returnBundle w) 4
  | push : Row w x flags (.push (srcAField w)) (pushBundle w) 4
  | pop : Row w x flags (.pop (dstField w)) (popBundle w) 4
  | inert : Row w x flags .inert (inertControls w) 2
  | input (p : Port) : Row w x flags (.input (dstField w) p) (inBundle w p) 2
  | output (p : Port) : Row w x flags (.output (srcAField w) p) (outBundle w p) 2

theorem isHlt_iff (w : Word) : isHlt w = true ↔ classField w = 7 ∧ subField w = 0 := by
  rw [isHlt, Bool.and_eq_true, beq_iff_eq, beq_iff_eq]

/-- The decoder, the control bundle and the lengths follow one table. Its 128 lines are read one by one: HLT's is
excluded, and each other one is an entry of `Row`. -/
theorem row_of_not_hlt (w x : Word) (flags : BitVec 4) (h : isHlt w = false) :
    Row w x flags (effectOf (encodingOf (decodePair w x))) (controls w flags) (instrTicks w) := by
  have hclass := classField_lt w
  have hsub := subField_lt w
  rw [encodingOf_decodePair]
  unfold controls instrTicks
  unfold isHlt at h
  generalize classField w = k at hclass h ⊢
  generalize subField w = j at hsub h ⊢
  by_cases hsystem : k = 7
  · subst hsystem
    have hpos : 0 < j := Nat.pos_of_ne_zero fun hzero => by
      subst hzero
      exact absurd h (by decide)
    interval_cases j
    all_goals constructor
  · have hother : k < 7 := by omega
    interval_cases k
    all_goals
      interval_cases j
      all_goals constructor

theorem effectOf_of_hlt {x : Word} (h : isHlt w = true) : effectOf (encodingOf (decodePair w x)) = .halt := by
  obtain ⟨hclass, hsub⟩ := (isHlt_iff w).mp h
  rw [encodingOf_decodePair, hclass, hsub]
  rfl

theorem controls_of_hlt (f : BitVec 4) (h : isHlt w = true) : controls w f = haltBundle w := by
  obtain ⟨hclass, hsub⟩ := (isHlt_iff w).mp h
  rw [controls_of_class7 f hclass, hsub]
  rfl

theorem instrTicks_of_hlt (h : isHlt w = true) : instrTicks w = 2 := by
  simp only [instrTicks, ((isHlt_iff w).mp h).1]

theorem Row.ticks_le {x : Word} {flags : BitVec 4} {f : Effect} {d : Controls} {n : Nat} (h : Row w x flags f d n) :
    n ≤ longestInstruction := by
  cases h <;> decide

theorem instrTicks_le (w : Word) : instrTicks w ≤ longestInstruction := by
  cases h : isHlt w with
  | true => exact (instrTicks_of_hlt h).trans_le (by decide)
  | false => exact (row_of_not_hlt w 0 0 h).ticks_le

end Sys2Proof.Machine

/-! ## The cycles of every instruction (R285) -/

namespace Sys2Proof.Machine

variable {s t u v : State} {d : Controls} {n k : Nat} {f : Effect}

/-- A boundary state with no write pending, the fields of its sequencer written out. -/
def State.start (s : State) : State := (s.setWl false).setClock false .none

theorem start_of_quiescent (h : quiescent s = true) : s.start = s := by
  obtain ⟨hclk, hphases, hwl⟩ := (quiescent_iff s).mp h
  cases s
  subst hclk hphases hwl
  rfl

/-- `s` at the end of a cycle inside an instruction: the last tick has read the word at `a`. -/
def State.midway (s : State) (wl : Bool) (n : Phases) (a : Word) : State :=
  ((s.setWl wl).readAhead a).setClock false n

/-- PC goes past the instruction word, and RAMADDR follows IR1. -/
def State.passWord (s : State) : State := (s.setPc (s.pc + 1)).latchRamaddr

/-- IR1 takes the extension word too. -/
def State.takeExtension (s : State) : State := s.passWord.latchIr1 (extensionWord s)

/-- PC goes past the extension word too. -/
def State.passExtension (s : State) : State := (s.takeExtension.setPc (s.pc + 2)).latchRamaddr

/-- The first cycle of RTS. -/
def returnPhase : Phases := { stackPhase with rtsF := true }

/-! Where an instruction is at the end of a cycle that is not its last. -/

/-- LD, ST, a jump and JSR have their extension word. -/
def State.extended (s : State) (jsr : Bool) : State :=
  s.takeExtension.midway false (extensionPhase jsr) (s.pc + 1)

/-- LDI has written the extension word. -/
def State.loadedImmediate (s : State) : State :=
  (s.takeExtension.setReg (dstField s.ir0) (extensionWord s)).midway false (extensionPhase false) (s.pc + 1)

/-- LD has written the word at the extension-word address. -/
def State.loaded (s : State) : State :=
  (s.passExtension.setReg (dstField s.ir0) (s.memRead (extensionWord s))).midway false addressIdlePhase
    (extensionWord s)

/-- ST has requested its write (R279). -/
def State.storing (s : State) : State := s.passExtension.midway true addressIdlePhase (extensionWord s)

/-- STR has its address. -/
def State.storingIndirect (s : State) : State :=
  s.passWord.midway false registerPhase (s.getReg (srcBField s.ir0))

/-- LDR's register write. -/
def State.loadIndirect (s : State) : State := s.setReg (dstField s.ir0) (s.memRead (s.getReg (srcBField s.ir0)))

/-- LDR has written the word at srcB's value; the arbiter is at the value srcB has now. -/
def State.loadedIndirect (s : State) : State :=
  s.loadIndirect.passWord.midway false registerPhase (s.loadIndirect.getReg (srcBField s.ir0))

/-- JSR has written the return address. -/
def State.called (s : State) : State := (s.passExtension.memWrite s.sp (s.pc + 2)).midway false stackPhase s.sp

/-- RTS has read the return address into the holding pair. -/
def State.returning (s : State) : State := s.latchRamaddr.drop.midway false returnPhase (s.sp + 1)

/-- PUSH has written its word. -/
def State.pushed (s : State) : State :=
  (s.passWord.memWrite s.sp (s.getReg (srcAField s.ir0))).midway false stackPhase s.sp

/-- POP has written its register. -/
def State.popped (s : State) : State :=
  (s.passWord.drop.setReg (dstField s.ir0) s.top).midway false stackPhase (s.sp + 1)

/-- The cycles of the instruction in IR0 from the boundary `s`, HLT apart: the bundle, the state at the start of the
cycle and the state at its end. An instruction's last cycle ends where its effect does, OUT's with a second event. -/
inductive Cycle (s : State) : Controls → State → State → Prop where
  | alu (op : BitVec 4) : Cycle s (aluBundle s.ir0 op) s.start
      ((Effect.alu op (dstField s.ir0) (srcAField s.ir0) (srcBField s.ir0)).run s).start
  | not : Cycle s (aluBundle s.ir0 11) s.start
      ((Effect.alu 11 (dstField s.ir0) (srcAField s.ir0) (srcAField s.ir0)).run s).start
  | zero : Cycle s (zeroBundle s.ir0) s.start ((Effect.zero (dstField s.ir0)).run s).start
  | compare : Cycle s (compareBundle s.ir0) s.start
      ((Effect.compare (srcAField s.ir0) (srcBField s.ir0)).run s).start
  | inert : Cycle s (inertControls s.ir0) s.start (Effect.inert.run s).start
  | input (p : Port) : Cycle s (inBundle s.ir0 p) s.start ((Effect.input (dstField s.ir0) p).run s).start
  | output (p : Port) : Cycle s (outBundle s.ir0 p) s.start
      (((Effect.output (srcAField s.ir0) p).run s).output p (s.getReg (srcAField s.ir0))).start
  | immediate : Cycle s (immediateBundle s.ir0) s.start s.loadedImmediate
  | immediateEnd : Cycle s (immediateBundle s.ir0) s.loadedImmediate
      ((Effect.immediate (dstField s.ir0) (extensionWord s)).run s).start
  | load : Cycle s (loadBundle s.ir0) s.start (s.extended false)
  | loadAddress : Cycle s (loadBundle s.ir0) (s.extended false) s.loaded
  | loadEnd : Cycle s (loadBundle s.ir0) s.loaded ((Effect.load (dstField s.ir0) (extensionWord s)).run s).start
  | store : Cycle s (storeBundle s.ir0) s.start (s.extended false)
  | storeAddress : Cycle s (storeBundle s.ir0) (s.extended false) s.storing
  | storeEnd : Cycle s (storeBundle s.ir0) s.storing ((Effect.store (srcAField s.ir0) (extensionWord s)).run s).start
  | storeIndirect : Cycle s (storeIndirectBundle s.ir0) s.start s.storingIndirect
  | storeIndirectEnd : Cycle s (storeIndirectBundle s.ir0) s.storingIndirect
      ((Effect.storeIndirect (srcAField s.ir0) (srcBField s.ir0)).run s).start
  | loadIndirect : Cycle s (loadIndirectBundle s.ir0) s.start s.loadedIndirect
  | loadIndirectEnd : Cycle s (loadIndirectBundle s.ir0) s.loadedIndirect
      ((Effect.loadIndirect (dstField s.ir0) (srcBField s.ir0)).run s).start
  | jump (sub : Nat) : Cycle s (jumpBundle s.ir0 (condition sub s.flags)) s.start (s.extended false)
  | jumpEnd (sub : Nat) : Cycle s (jumpBundle s.ir0 (condition sub s.flags)) (s.extended false)
      ((Effect.jump sub (extensionWord s)).run s).start
  | call : Cycle s (callBundle s.ir0) s.start (s.extended true)
  | callPush : Cycle s (callBundle s.ir0) (s.extended true) s.called
  | callEnd : Cycle s (callBundle s.ir0) s.called ((Effect.call (extensionWord s)).run s).start
  | ret : Cycle s (returnBundle s.ir0) s.start s.returning
  | retEnd : Cycle s (returnBundle s.ir0) s.returning (Effect.ret.run s).start
  | push : Cycle s (pushBundle s.ir0) s.start s.pushed
  | pushEnd : Cycle s (pushBundle s.ir0) s.pushed ((Effect.push (srcAField s.ir0)).run s).start
  | pop : Cycle s (popBundle s.ir0) s.start s.popped
  | popEnd : Cycle s (popBundle s.ir0) s.popped ((Effect.pop (dstField s.ir0)).run s).start

theorem State.eq_iff (s t : State) : s = t ↔ s.regs = t.regs ∧ s.pc = t.pc ∧ s.sp = t.sp ∧ s.flags = t.flags ∧
    s.ir0 = t.ir0 ∧ s.ir1 = t.ir1 ∧ s.ramaddrLatch = t.ramaddrLatch ∧ s.phases = t.phases ∧ s.wl = t.wl ∧
    s.clk = t.clk ∧ s.ramAddr = t.ramAddr ∧ s.ramOut = t.ramOut ∧ s.mem = t.mem ∧ s.inPins = t.inPins ∧
    s.inDraws = t.inDraws ∧ s.events = t.events := by
  cases s
  cases t
  rw [State.mk.injEq]

theorem State.input_regs (s : State) (i : Reg) (p : Port) : (s.input i p).regs = s.regs.set i (s.portValue p) := by
  rw [State.input, State.setReg_regs, State.afterSample_regs]

/-- Each cycle is what the steps of its two half-cycles compute, field by field. -/
theorem Cycle.sound (h : Cycle s d t u) :
    t.ir0 = s.ir0 ∧ t.flags = s.flags ∧ t.clk = false ∧ d.hlt = false ∧ t.cycle d = u := by
  cases h
  all_goals
    simp [State.eq_iff,
      -- the steps of a half-cycle
      State.cycle, State.halfCycle, State.endTick, afterWrite, registerStep, activeRegWrite, idleRegWrite,
      memoryDataCycle, nextFlags, nextPc, nextSp, ramWriteStep, writeRequest, writeData, ramClock, nextWl,
      nextPhases, Phases.first, Phases.currAddr, arbiterAddress, latchStep, portStep,
      -- the bundles
      inertControls, aluBundle, zeroBundle, compareBundle, immediateBundle, loadBundle, storeBundle,
      storeIndirectBundle, loadIndirectBundle, jumpBundle, callBundle, returnBundle, pushBundle, popBundle, inBundle,
      outBundle,
      -- where a cycle starts and ends
      State.start, State.midway, State.passWord, State.takeExtension, State.passExtension, State.extended,
      State.loadedImmediate, State.loaded, State.storing, State.storingIndirect, State.loadIndirect,
      State.loadedIndirect, State.called, State.returning, State.pushed, State.popped, Phases.none, extensionPhase,
      addressIdlePhase, registerPhase, stackPhase, returnPhase,
      -- the effects
      Effect.run, aluToReg, zeroToReg, alu_disabled, aluResult, compareFlags, loadImmediate, effectiveAddress,
      jumpIf, pushReg, execInert, State.top, State.input_regs, State.input_inDraws,
      -- what they read
      extensionWord, State.memRead, State.getReg, BitVec.add_assoc]

/-! ## Ticks up to the next boundary -/

/-- `n` ticks lead from `s` to `t`, with no instruction boundary strictly between. -/
inductive Reaches (s : State) : Nat → State → Prop where
  | refl : Reaches s 0 s
  | next {n : Nat} {t : State} (h : Reaches s n t) (hmid : n = 0 ∨ atBoundary t = false) : Reaches s (n + 1) (tick t)

theorem tickN_succ (n : Nat) (s : State) : tickN (n + 1) s = tick (tickN n s) := tickN_add n 1 s

namespace Reaches

theorem tickN_eq (h : Reaches s n t) : tickN n s = t := by
  induction h with
  | refl => rfl
  | next _ _ ih => rw [tickN_succ, ih]

theorem atBoundary_tickN (h : Reaches s n t) (hpos : 0 < k) (hk : k < n) : atBoundary (tickN k s) = false := by
  induction h with
  | refl => exact absurd hk (Nat.not_lt_zero k)
  | next h hmid ih =>
    rcases Nat.lt_succ_iff_lt_or_eq.mp hk with hlt | rfl
    · exact ih hlt
    · rw [h.tickN_eq]
      exact hmid.resolve_left hpos.ne'

theorem cycle (h : Reaches s.start n t) (hmid : n = 0 ∨ atBoundary t = false) (hd : controls s.ir0 s.flags = d)
    (hcycle : Cycle s d t u) : Reaches s.start (n + 2) u := by
  obtain ⟨hir0, hflags, hclk, hhlt, rfl⟩ := hcycle.sound
  have hhalf : atBoundary (tick t) = false := by rw [atBoundary, clk_tick, hclk]; rfl
  rw [← tick_tick_eq_cycle hclk (by rw [hir0, hflags, hd]) hhlt]
  exact (h.next hmid).next (.inr hhalf)

theorem one_cycle (hd : controls s.ir0 s.flags = d) (h : Cycle s d s.start t) : Reaches s.start 2 t :=
  refl.cycle (.inl rfl) hd h

theorem two_cycles (hd : controls s.ir0 s.flags = d) (h₁ : Cycle s d s.start t) (h₂ : Cycle s d t u)
    (ht : atBoundary t = false) : Reaches s.start 4 u :=
  (one_cycle hd h₁).cycle (.inr ht) hd h₂

theorem three_cycles (hd : controls s.ir0 s.flags = d) (h₁ : Cycle s d s.start t) (h₂ : Cycle s d t u)
    (h₃ : Cycle s d u v) (ht : atBoundary t = false) (hu : atBoundary u = false) : Reaches s.start 6 v :=
  (two_cycles hd h₁ h₂ ht).cycle (.inr hu) hd h₃

end Reaches

/-! ## What the ticks of an instruction leave -/

/-- The event that an OUT emits again on its second tick (R283, D16). -/
def Effect.echo (f : Effect) (s : State) : List Event :=
  match f with
  | .output a p => [.outPort p (s.getReg a)]
  | _ => []

/-- The state that the ticks leave: the effect's, with the second event of an OUT. -/
def Effect.ticked (f : Effect) (s : State) : State :=
  match f with
  | .output a p => (f.run s).output p (s.getReg a)
  | _ => f.run s

theorem Effect.ticked_eq (f : Effect) (s : State) : f.ticked s = (f.run s).emit (f.echo s) := by
  cases f with
  | output a p => rfl
  | _ => simp only [Effect.ticked, Effect.echo, State.emit, List.append_nil]

theorem reaches_of_row (h : Row s.ir0 (extensionWord s) s.flags f d n) (hd : controls s.ir0 s.flags = d) :
    Reaches s.start n (f.ticked s).start := by
  cases h with
  | alu op => exact .one_cycle hd (.alu op)
  | not => exact .one_cycle hd .not
  | zero => exact .one_cycle hd .zero
  | compare => exact .one_cycle hd .compare
  | immediate => exact .two_cycles hd .immediate .immediateEnd rfl
  | load => exact .three_cycles hd .load .loadAddress .loadEnd rfl rfl
  | store => exact .three_cycles hd .store .storeAddress .storeEnd rfl rfl
  | storeIndirect => exact .two_cycles hd .storeIndirect .storeIndirectEnd rfl
  | loadIndirect => exact .two_cycles hd .loadIndirect .loadIndirectEnd rfl
  | jump sub => exact .two_cycles hd (.jump sub) (.jumpEnd sub) rfl
  | call => exact .three_cycles hd .call .callPush .callEnd rfl rfl
  | ret => exact .two_cycles hd .ret .retEnd rfl
  | push => exact .two_cycles hd .push .pushEnd rfl
  | pop => exact .two_cycles hd .pop .popEnd rfl
  | inert => exact .one_cycle hd .inert
  | input p => exact .one_cycle hd (.input p)
  | output p => exact .one_cycle hd (.output p)

end Sys2Proof.Machine

namespace Sys2Proof.Machine

variable {s t : State} {n k : Nat}

/-! ## What the ticks leave beside the effect -/

theorem quiescent_ticked (f : Effect) (hs : quiescent s = true) : quiescent (f.ticked s) = true := by
  rw [Effect.ticked_eq]
  exact quiescent_run f hs

/-- Only class 7 subopcodes 4 to 6 select an OUT. -/
theorem echo_effectOf (e : Encoding) (s : State) :
    (effectOf e).echo s =
      if e.cls = 7 ∧ 4 ≤ e.sub ∧ e.sub ≤ 6 then [.outPort (portOf (e.sub - 4)) (s.getReg e.srcA)] else [] := by
  by_cases h7 : e.cls = 7
  · by_cases h0 : e.sub = 0
    · simp [effectOf, h7, h0, Effect.echo]
    by_cases h3 : e.sub ≤ 3
    · simp [effectOf, h7, h0, h3, Effect.echo, show ¬4 ≤ e.sub by omega]
    · by_cases h6 : e.sub ≤ 6 <;> simp [effectOf, h7, h0, h3, h6, Effect.echo, show 4 ≤ e.sub by omega]
  · rw [if_neg fun h => h7 h.1]
    unfold effectOf
    split
    case h_7 hclass => exact absurd hclass h7
    all_goals repeat' split
    all_goals rfl

/-- The register of an OUT's event is the one the word names. -/
theorem echo_nextEffect (s : State) :
    s.nextEffect.echo s =
      if classField s.ir0 = 7 ∧ 4 ≤ subField s.ir0 ∧ subField s.ir0 ≤ 6 then
        [.outPort (portOf (subField s.ir0 - 4)) (s.getReg (srcAField s.ir0))] else [] := by
  rw [State.nextEffect, echo_effectOf, fetched, encodingOf_decodePair]
  refine ite_congr rfl (fun hout => ?_) fun _ => rfl
  obtain ⟨hclass, hlow, hhigh⟩ := hout
  have hformat : Safety.formatOf (classField s.ir0) (subField s.ir0) = ⟨false, true, false⟩ := by
    rw [hclass, Safety.formatOf]
    simp only [if_neg (show ¬subField s.ir0 = 0 by omega), if_neg (show ¬subField s.ir0 ≤ 3 by omega), if_pos hhigh]
  rw [canonicalEncoding, hformat]
  rfl

/-! ## From one boundary to the next (R286, R290) -/

/-- The ticks of an instruction other than HLT. -/
theorem reaches_of_quiescent (hs : quiescent s = true) (hrun : isHlt s.ir0 = false) :
    Reaches s (instrTicks s.ir0) (s.nextEffect.ticked s) := by
  have hrow := row_of_not_hlt s.ir0 (extensionWord s) s.flags hrun
  have hreach : Reaches s.start (instrTicks s.ir0) (s.nextEffect.ticked s).start := reaches_of_row hrow rfl
  rwa [start_of_quiescent hs, start_of_quiescent (quiescent_ticked _ hs)] at hreach

/-- At a boundary the machine is halted exactly if IR0 holds a HLT word. -/
theorem halted_eq_isHlt (hs : quiescent s = true) : halted s = isHlt s.ir0 := by
  obtain ⟨-, hphases, -⟩ := (quiescent_iff s).mp hs
  rw [halted, hphases]
  rfl

/-- With fuel enough, ticking to the next boundary makes the ticks that it takes. -/
theorem runToBoundary_eq_tickN {fuel : Nat} (hfuel : n < fuel) (hend : atBoundary (tickN (n + 1) t) = true)
    (hmid : ∀ k < n, atBoundary (tickN (k + 1) t) = false) : runToBoundary fuel t = tickN (n + 1) t := by
  induction fuel generalizing n t with
  | zero => exact absurd hfuel (Nat.not_lt_zero n)
  | succ fuel ih =>
    rw [runToBoundary]
    cases n with
    | zero => exact if_pos hend
    | succ n =>
      have hfirst : atBoundary (tick t) = false := hmid 0 n.succ_pos
      rw [if_neg (Bool.eq_false_iff.mp hfirst)]
      exact ih (Nat.lt_of_succ_lt_succ hfuel) hend fun k hk => hmid (k + 1) (Nat.succ_lt_succ hk)

/-- A step between two boundaries goes on to the second. -/
theorem Reaches.step_tickN (h : Reaches s n t) (hn : n ≤ longestInstruction) (ht : atBoundary t = true) (hpos : 0 < k)
    (hk : k < n) : step (tickN k s) = .next t := by
  obtain ⟨m, rfl⟩ : ∃ m, n = k + (m + 1) := ⟨n - k - 1, by omega⟩
  have hsplit (j : Nat) : tickN (j + 1) (tickN k s) = tickN (k + (j + 1)) s := (tickN_add k (j + 1) s).symm
  have hnot : quiescent (tickN k s) = false := by rw [quiescent, h.atBoundary_tickN hpos hk, Bool.false_and]
  have hend : tickN (m + 1) (tickN k s) = t := by rw [hsplit, h.tickN_eq]
  have hmid : ∀ j < m, atBoundary (tickN (j + 1) (tickN k s)) = false := fun j hj => by
    rw [hsplit]
    exact h.atBoundary_tickN (by omega) (by omega)
  have hfuel : m < longestInstruction := by omega
  rw [step, if_neg (Bool.eq_false_iff.mp hnot), runToBoundary_eq_tickN hfuel (by rwa [hend]) hmid, hend]

/-! ## The halted state (R223, R291) -/

/-- An idle half between instructions fetches the word at PC and does nothing else but what an OUT in IR0 emits. -/
theorem tick_of_fetch {d : Controls} (hphases : t.phases = .none) (hd : controls t.ir0 t.flags = d)
    (hgate : (!t.clk && !d.hlt) = false) :
    tick t = (portStep d (t.fetchNext.setWl false)).setClock (!t.clk) .none := by
  have hwrite : afterWrite t d false = t := by
    simp [afterWrite, registerStep, idleRegWrite, memoryDataCycle, ramWriteStep, ramClock, hphases, Phases.none]
  have hwl : nextWl t.wl d .none false = false := by simp [nextWl, Phases.currAddr, Phases.none]
  have hnext : nextPhases .none d false = .none := by simp [nextPhases, Phases.none]
  rw [tick_eq_halfCycle hd hgate, State.halfCycle, hwrite, hphases, hnext, hwl]
  rfl

theorem halted_iff (s : State) : halted s = true ↔ s.phases = .none ∧ isHlt s.ir0 = true := by
  rw [halted, Bool.and_eq_true]
  exact and_congr_left fun _ => ⟨phases_eq_none_of_first, fun h => by rw [h]; rfl⟩

/-- The clock is gated on either half, so that both are idle halves. -/
theorem tick_of_halted (h : halted t = true) : tick t = (t.fetchNext.setWl false).setClock (!t.clk) .none := by
  obtain ⟨hphases, hhlt⟩ := (halted_iff t).mp h
  exact tick_of_fetch hphases (controls_of_hlt t.flags hhlt) (Bool.and_false _)

/-- While the word at PC is the HLT word in IR0, the machine stays halted at the same PC. -/
theorem halted_tickN (h : halted s = true) (hword : s.ir0 = s.memRead s.pc) (n : Nat) :
    halted (tickN n s) = true ∧ (tickN n s).pc = s.pc ∧ (tickN n s).mem = s.mem := by
  induction n with
  | zero => exact ⟨h, rfl, rfl⟩
  | succ n ih =>
    obtain ⟨hhalted, hpc, hmem⟩ := ih
    have hfetched : (tickN (n + 1) s).ir0 = s.ir0 := by
      rw [tickN_succ, tick_of_halted hhalted, hword, State.memRead, ← hmem, ← hpc]
      rfl
    have hphases : (tickN (n + 1) s).phases = .none := by rw [tickN_succ, tick_of_halted hhalted]; rfl
    obtain ⟨-, hhlt⟩ := (halted_iff s).mp h
    refine ⟨(halted_iff _).mpr ⟨hphases, by rwa [hfetched]⟩, ?_, ?_⟩
    · rw [tickN_succ, tick_of_halted hhalted]
      exact hpc
    · rw [tickN_succ, tick_of_halted hhalted]
      exact hmem

theorem nextEffect_of_hlt (h : isHlt s.ir0 = true) : s.nextEffect = .halt := effectOf_of_hlt h

theorem withEvents_emit (s : State) (es : List Event) : Safety.withEvents (s.emit es) s.events = s := rfl

theorem withEvents_portStep (d : Controls) (s : State) (es : List Event) :
    Safety.withEvents (portStep d s) es = Safety.withEvents s es := by
  unfold portStep
  split <;> rfl

theorem portStep_setClock (d : Controls) (s : State) (clk : Bool) (n : Phases) :
    (portStep d s).setClock clk n = portStep d (s.setClock clk n) := by
  unfold portStep
  split <;> rfl

/-- Two ticks of a HLT fetch the word at PC; if it is another word, the second tick may emit its OUT's event. -/
theorem tickN_two_of_hlt (hs : quiescent s = true) (h : isHlt s.ir0 = true) :
    ∃ d, tickN 2 s = portStep d s.fetchNext := by
  obtain ⟨hclk, -, -⟩ := (quiescent_iff s).mp hs
  have hfirst : tick s = (s.fetchNext.setWl false).setClock true .none := by
    rw [tick_of_halted (by rw [halted_eq_isHlt hs, h]), hclk, Bool.not_false]
  have hsecond : tick (tick s) = (portStep (controls (tick s).ir0 (tick s).flags)
      ((tick s).fetchNext.setWl false)).setClock (!(tick s).clk) .none :=
    tick_of_fetch (by rw [hfirst]; rfl) rfl (by rw [hfirst]; rfl)
  refine ⟨controls (tick s).ir0 (tick s).flags, hsecond.trans ?_⟩
  have hfetched : ((tick s).fetchNext.setWl false).setClock (!(tick s).clk) .none = s.fetchNext.start := by
    rw [hfirst]
    simp [State.eq_iff, State.start]
  have hstart : s.fetchNext.start = s.fetchNext := start_of_quiescent (quiescent_run .halt hs)
  rw [portStep_setClock, hfetched, hstart]

/-- A halted machine whose latches hold the HLT word at PC only toggles its clock. -/
theorem tick_of_halted_of_latched (h : halted t = true) (hlatched : Safety.Latched t) (hwl : t.wl = false) :
    tick t = t.setClock (!t.clk) t.phases := by
  rw [tick_of_halted h, State.fetchNext_of_latched hlatched, ((halted_iff t).mp h).1, ← hwl]
  rfl

theorem tickN_of_halted (hinv : Safety.Inv s) (h : halted s = true) (n : Nat) :
    tickN n s = s.setClock (n % 2 == 1) s.phases := by
  obtain ⟨hclk, -, hwl⟩ := (quiescent_iff s).mp hinv.quiescent
  induction n with
  | zero =>
    change s = s.setClock false s.phases
    rw [← hclk]
    rfl
  | succ n ih =>
    have hlatched : Safety.Latched (s.setClock (n % 2 == 1) s.phases) :=
      ⟨hinv.latched.ir0, hinv.latched.ramAddr, hinv.latched.ramOut⟩
    have hhalted : halted (s.setClock (n % 2 == 1) s.phases) = true := h
    have htoggle : (!(n % 2 == 1)) = ((n + 1) % 2 == 1) := by
      rw [Bool.eq_iff_iff, Bool.not_eq_true', beq_eq_false_iff_ne, beq_iff_eq]
      omega
    rw [tickN_succ, ih, tick_of_halted_of_latched hhalted hlatched hwl, State.setClock_clk, htoggle]
    rfl

/-- A step of the halted machine changes nothing and says that it is halted (R223, D8). -/
theorem stepStatus_of_halted (hinv : Safety.Inv s) (h : halted s = true) : stepStatus s = .next ⟨s, .halted⟩ := by
  have hstep : step s = .next s := by
    rw [step_eq_run hinv.quiescent, nextEffect_of_hlt ((halted_iff s).mp h).2, Effect.run,
      State.fetchNext_of_latched hinv.latched]
  have hresult : s.result = ⟨s, .halted⟩ := congrArg (RunResult.mk s) ((State.status_eq_halted s).mpr h)
  rw [stepStatus, hstep, ← hresult]

/-- A run of ticks ends at its first halted state, or when the ticks are used up. -/
theorem exists_tickRun_eq (n : Nat) (s : State) :
    ∃ k ≤ n, tickRun n s = (tickN k s).result ∧ (∀ j < k, halted (tickN j s) = false) ∧
      (k < n → halted (tickN k s) = true) := by
  induction n generalizing s with
  | zero => exact ⟨0, le_rfl, rfl, fun j hj => absurd hj (Nat.not_lt_zero j), fun h => absurd h (lt_irrefl 0)⟩
  | succ n ih =>
    cases h : halted s with
    | true =>
      exact ⟨0, Nat.zero_le _, tickRun_halted h _, fun j hj => absurd hj (Nat.not_lt_zero j), fun _ => h⟩
    | false =>
      obtain ⟨k, hk, hrun, hbefore, hend⟩ := ih (tick s)
      refine ⟨k + 1, Nat.succ_le_succ hk, (tickRun_succ h n).trans hrun, fun j hj => ?_,
        fun hlt => hend (Nat.lt_of_succ_lt_succ hlt)⟩
      cases j with
      | zero => exact h
      | succ j => exact hbefore j (Nat.lt_of_succ_lt_succ hj)

end Sys2Proof.Machine

/-! ## The phase flags (R252) -/

namespace Sys2Proof.Machine

open Safety

variable {s : State} {d : Controls} {p : Phases} {w : Word}

/-- What the rows of R241 say of the signals that set a phase flag, as pairs of signals that exclude each other. -/
structure PhaseSignals (d : Controls) : Prop where
  extOrRegA   : (d.isNxtExt && d.regIsAddress) = false
  extOrSpc    : (d.isNxtExt && (d.spChange && !d.jsr)) = false
  regAOrSpc   : (d.regIsAddress && (d.spChange && !d.jsr)) = false
  rtsWithSpc  : (d.rts && !(d.spChange && !d.jsr)) = false
  jsrWithExt  : (d.jsr && !d.isNxtExt) = false

theorem Row.phaseSignals {x : Word} {flags : BitVec 4} {f : Effect} {n : Nat} (h : Row w x flags f d n) :
    PhaseSignals d := by
  cases h <;> exact ⟨rfl, rfl, rfl, rfl, rfl⟩

theorem phaseSignals_controls (w : Word) (f : BitVec 4) : PhaseSignals (controls w f) := by
  cases h : isHlt w with
  | true =>
    rw [controls_of_hlt f h]
    exact ⟨rfl, rfl, rfl, rfl, rfl⟩
  | false => exact (row_of_not_hlt w 0 f h).phaseSignals

theorem Row.hlt_eq_false {x : Word} {flags : BitVec 4} {f : Effect} {n : Nat} (h : Row w x flags f d n) :
    d.hlt = false := by
  cases h <;> rfl

/-- LD and ST are no HLT. -/
theorem hlt_of_isAbsolute (f : BitVec 4) (h : isAbsolute w = true) : (controls w f).hlt = false := by
  rw [isAbsolute, Bool.and_eq_true, beq_iff_eq] at h
  have hrun : isHlt w = false := by rw [isHlt, h.1]; rfl
  exact (row_of_not_hlt w 0 f hrun).hlt_eq_false

/-- Of the words with an extension, LD and ST alone take it for a data address. -/
theorem isAbsolute_of_hasExtension {f : BitVec 4} (h : hasExtension (classField w) (subField w) = true)
    (haddress : ((controls w f).containsAddress && !(controls w f).loadPC) = true) : isAbsolute w = true := by
  obtain hclass | ⟨hclass, hsub⟩ | ⟨hclass, hsub⟩ := (hasExtension_iff _ _).mp h
  · rw [controls_immediate f hclass] at haddress
    exact absurd haddress Bool.false_ne_true
  · rw [isAbsolute, hclass]
    exact decide_eq_true hsub
  · have hload : (controls w f).loadPC = true := by
      rw [controls_of_class4 f hclass, controlsClass4]
      by_cases hjump : subField w ≤ 10
      · rw [if_pos hjump]
      · rw [if_neg hjump, if_pos (by omega)]
    rw [hload, Bool.not_true, Bool.and_false] at haddress
    exact absurd haddress Bool.false_ne_true

/-! The active half, by whether it is the first of an instruction. -/

theorem nextPhases_none_active (d : Controls) :
    nextPhases .none d true = ⟨d.isNxtExt, false, false, d.spChange && !d.jsr, d.jsr, d.rts, d.regIsAddress⟩ := by
  simp [nextPhases, Phases.none, Phases.first]

theorem nextPhases_active_of_not_first (d : Controls) (h : p.first = false) :
    nextPhases p d true =
      ⟨false, p.ext && d.containsAddress && !d.loadPC, p.addrB, p.jsrF, false, false, false⟩ := by
  simp [nextPhases, h]

theorem phaseInv_tickWith_first (hd : controls s.ir0 s.flags = d) (hphases : s.phases = .none) :
    PhaseInv (tickWith s d true) := by
  have hir0 : (tickWith s d true).ir0 = s.ir0 := tickWith_ir0_active s d
  have hext : d.isNxtExt = hasExtension (classField s.ir0) (subField s.ir0) := by rw [← hd, controls_isNxtExt]
  obtain ⟨hextRegA, hextSpc, hregASpc, hrts, hjsr⟩ := hd ▸ phaseSignals_controls s.ir0 s.flags
  have hnext := tickWith_phases s d true
  rw [hphases, nextPhases_none_active] at hnext
  constructor
  all_goals rw [hnext]
  case notExtRegA => simpa using hextRegA
  case notExtSpc => simpa using hextSpc
  case notRegASpc => simpa using hregASpc
  case rtsWithSpc => simpa using hrts
  case jsrWithExt => simpa using hjsr
  case extWithWord => rw [hir0, ← hext]; exact id
  case addrJ => exact nofun
  case addrB => exact nofun

theorem phaseInv_tickWith_active (h : PhaseInv s) (hd : controls s.ir0 s.flags = d) (hclk : s.clk = false)
    (hfirst : s.phases.first = false) : PhaseInv (tickWith s d true) := by
  have hir0 : (tickWith s d true).ir0 = s.ir0 := tickWith_ir0_active s d
  have hnext := tickWith_phases s d true
  rw [nextPhases_active_of_not_first d hfirst] at hnext
  constructor
  all_goals rw [hnext]
  case notExtRegA => simp
  case notExtSpc => simp
  case notRegASpc => simp
  case rtsWithSpc => exact nofun
  case jsrWithExt => exact nofun
  case extWithWord => exact nofun
  case addrJ =>
    intro haddrJ
    rw [hir0]
    rw [Bool.and_assoc, Bool.and_eq_true, ← hd] at haddrJ
    exact ⟨isAbsolute_of_hasExtension (h.extWithWord haddrJ.1) haddrJ.2, rfl⟩
  case addrB =>
    intro haddrB
    obtain ⟨habsolute, hext, -⟩ := h.addrB haddrB
    rw [hir0, tickWith_clk, hclk, hext]
    exact ⟨habsolute, rfl, rfl⟩

/-! The idle half. -/

theorem phaseInv_tickWith_idle (h : PhaseInv s) (hd : controls s.ir0 s.flags = d) (hgate : (!s.clk && !d.hlt) = false) :
    PhaseInv (tickWith s d false) := by
  have hnext : (tickWith s d false).phases = { s.phases with addrB := s.phases.addrJ && d.containsAddress && !d.jsr } :=
    tickWith_phases s d false
  constructor
  all_goals rw [hnext]
  case notExtRegA => exact h.notExtRegA
  case notExtSpc => exact h.notExtSpc
  case notRegASpc => exact h.notRegASpc
  case rtsWithSpc => exact h.rtsWithSpc
  case jsrWithExt => exact h.jsrWithExt
  case extWithWord =>
    intro (hext : s.phases.ext = true)
    rw [tickWith_ir0_idle (by rw [hext]; rfl)]
    exact h.extWithWord hext
  case addrJ =>
    intro (haddrJ : s.phases.addrJ = true)
    rw [tickWith_ir0_idle (by simp [haddrJ])]
    exact h.addrJ haddrJ
  case addrB =>
    intro (haddrB : (s.phases.addrJ && d.containsAddress && !d.jsr) = true)
    rw [Bool.and_assoc, Bool.and_eq_true] at haddrB
    have haddrJ := haddrB.1
    obtain ⟨habsolute, hext⟩ := h.addrJ haddrJ
    have hclk : s.clk = true := by
      rw [← hd, hlt_of_isAbsolute s.flags habsolute] at hgate
      simpa using hgate
    rw [tickWith_ir0_idle (by simp [haddrJ]), tickWith_clk, hclk]
    exact ⟨habsolute, hext, haddrJ⟩

theorem phaseInv_tick (h : PhaseInv s) : PhaseInv (tick s) := by
  rw [tick]
  cases hgate : !s.clk && !(controls s.ir0 s.flags).hlt with
  | false => exact phaseInv_tickWith_idle h rfl hgate
  | true =>
    cases hfirst : s.phases.first with
    | true => exact phaseInv_tickWith_first rfl (phases_eq_none_of_first hfirst)
    | false =>
      rw [Bool.and_eq_true, Bool.not_eq_true'] at hgate
      exact phaseInv_tickWith_active h rfl hgate.1 hfirst

theorem phases_tick_of_halted (h : halted s = true) : (tick s).phases = s.phases := by
  rw [tick_of_halted h, State.setClock_phases, ((halted_iff s).mp h).1]

end Sys2Proof.Machine

/-! ## The obligations -/

namespace Sys2Proof.Proofs

open Sys2Proof.Machine Sys2Proof.Safety

/-- Settles O40: the step is an effect, and every effect ends at a boundary with the next word latched. -/
theorem everyStepKeepsTheInvariant : Obligations.EveryStepKeepsTheInvariant := by
  unfold Obligations.EveryStepKeepsTheInvariant
  intro s t hinv hstep
  rw [step_eq_run hinv.quiescent] at hstep
  rw [← Host.Outcome.next.inj hstep]
  exact inv_run _ hinv

/-- Settles O43: other than for HLT the ticks reach the effect's end, but for an OUT's second event; two ticks of a HLT
are the fetch of the word at PC. -/
theorem ticksRefineTheStep : Obligations.TicksRefineTheStep := by
  unfold Obligations.TicksRefineTheStep
  intro s hs
  refine ⟨_, step_eq_run hs, ?_⟩
  cases hhlt : isHlt s.ir0 with
  | true =>
    obtain ⟨d, hticks⟩ := tickN_two_of_hlt hs hhlt
    rw [instrTicks_of_hlt hhlt, hticks, nextEffect_of_hlt hhlt, Effect.run, withEvents_portStep]
    refine ⟨?_, rfl⟩
    rw [quiescent_iff, portStep_clk, portStep_phases, portStep_wl, ← quiescent_iff]
    exact quiescent_run .halt hs
  | false =>
    rw [(reaches_of_quiescent hs hhlt).tickN_eq]
    exact ⟨quiescent_ticked _ hs, by rw [Effect.ticked_eq, withEvents_emit]⟩

/-- Settles O34: placing leaves a boundary whose IR0 and extension word are the two words placed. -/
theorem placedInstructionRuns : Obligations.PlacedInstructionRuns := by
  unfold Obligations.PlacedInstructionRuns
  intro s nbits w i hm htable
  obtain ⟨rest, hdecode⟩ := decode_of_decodeTableWord htable
  rw [State.withFetchWord, step_of_quiescent (quiescent_placeInstruction s _), fetched_placeInstruction hm,
    decodePair_of_decode hdecode]

/-- Settles O42: an active half by whether it is an instruction's first, an idle half by the one flag it moves; a halted
tick is an idle half with no flag set. -/
theorem ticksKeepThePhaseInvariant : Obligations.TicksKeepThePhaseInvariant := by
  unfold Obligations.TicksKeepThePhaseInvariant
  exact fun s h => ⟨phaseInv_tick h, phases_tick_of_halted⟩

/-- Settles O44: the ticks leave the effect's events and an OUT's echo; a HLT with its own word at PC emits none. -/
theorem tickEventsAreTheSteps : Obligations.TickEventsAreTheSteps := by
  unfold Obligations.TickEventsAreTheSteps
  intro s t hs hword hstep
  rw [step_eq_run hs] at hstep
  rw [← Host.Outcome.next.inj hstep, ← echo_nextEffect]
  cases hhlt : isHlt s.ir0 with
  | true =>
    have hhalted : halted s = true := by rw [halted_eq_isHlt hs, hhlt]
    have htick : (tickN 2 s).events = s.events := by
      have hfirst : tickN 1 s = (s.fetchNext.setWl false).setClock (!s.clk) .none := tick_of_halted hhalted
      rw [tickN_succ, tick_of_halted (halted_tickN hhalted hword 1).1, hfirst]
      simp
    rw [instrTicks_of_hlt hhlt, htick, nextEffect_of_hlt hhlt]
    exact (List.append_nil _).symm
  | false =>
    rw [(reaches_of_quiescent hs hhlt).tickN_eq, Effect.ticked_eq]
    rfl

/-- Settles O45: the path of the ticks ends at the first boundary after its start, and a HLT fetches itself again. -/
theorem instructionLengths : Obligations.InstructionLengths := by
  unfold Obligations.InstructionLengths
  intro s hs
  rw [halted_eq_isHlt hs]
  refine ⟨fun hrun => ?ends, fun hhlt hword k => ?stays⟩
  case ends =>
    have hreach := reaches_of_quiescent hs hrun
    refine ⟨?_, fun k hpos hk => hreach.atBoundary_tickN hpos hk⟩
    rw [hreach.tickN_eq]
    exact atBoundary_of_quiescent (quiescent_ticked _ hs)
  case stays =>
    obtain ⟨-, hpc, -⟩ := halted_tickN (by rw [halted_eq_isHlt hs, hhlt]) hword k
    exact hpc

/-- Settles O46: from a state on the path of the ticks, ticking to the next boundary goes to the path's end. -/
theorem stepInMidInstructionFinishesIt : Obligations.StepInMidInstructionFinishesIt := by
  unfold Obligations.StepInMidInstructionFinishesIt
  intro s k hs hrun hpos hk
  rw [halted_eq_isHlt hs] at hrun
  have hreach := reaches_of_quiescent hs hrun
  rw [hreach.tickN_eq]
  exact hreach.step_tickN (instrTicks_le _) (atBoundary_of_quiescent (quiescent_ticked _ hs)) hpos hk

/-- Settles O47: a halted tick is the fetch of the word that the latches already hold, by induction on the ticks; a run
of ticks by induction on its length. -/
theorem haltedTicksOnlyToggleTheClock : Obligations.HaltedTicksOnlyToggleTheClock := by
  unfold Obligations.HaltedTicksOnlyToggleTheClock
  refine ⟨fun s n hinv hhalted => ⟨tickN_of_halted hinv hhalted n, ?staysHalted, stepStatus_of_halted hinv hhalted⟩,
    fun s n => ?run⟩
  case staysHalted =>
    obtain ⟨hstays, -⟩ := halted_tickN hhalted hinv.latched.ir0 n
    exact hstays
  case run =>
    obtain ⟨k, hk, hrun, hbefore, hend⟩ := exists_tickRun_eq n s
    exact ⟨k, hk, hrun, State.status_eq_halted _, hbefore, hend⟩

/-- Settles O33: the pair decoder on IR0 and the word after PC reads what the list decoder reads at PC. -/
theorem stepRunsTheDecodedInstruction : Obligations.StepRunsTheDecodedInstruction := by
  unfold Obligations.StepRunsTheDecodedInstruction
  intro s i rest hs hir0 hdecode
  have hfetched : fetched s = i := by
    rw [fetched, hir0]
    exact decodePair_of_decode hdecode
  rw [step_of_quiescent hs, hfetched]

end Sys2Proof.Proofs

/-! # No exceptions (spec/60_exceptions.md): every step completes -/

namespace Sys2Proof.Machine

theorem step_of_not_quiescent {s : State} (h : quiescent s = false) :
    step s = .next (runToBoundary longestInstruction s) :=
  if_neg (Bool.eq_false_iff.mp h)

end Sys2Proof.Machine

namespace Sys2Proof.Proofs

open Sys2Proof.Machine

/-- Settles O32: at a boundary the step is the effect of the instruction fetched, whatever the word, and every effect
completes (`exec_eq_effect`); in mid-instruction the step is a run of ticks, none of which can fail. -/
theorem everyStepCompletes : Obligations.EveryStepCompletes := by
  unfold Obligations.EveryStepCompletes
  intro s
  cases hs : quiescent s with
  | true => exact ⟨_, step_eq_run hs⟩
  | false => exact ⟨_, step_of_not_quiescent hs⟩

end Sys2Proof.Proofs

/-! # Reset and RunFrame (spec/70_reset_and_hazards.md)

A Reset leaves an instruction boundary with RAM[0] latched, from any state (R321, R324); the power-on state is the Reset
of itself (R322). -/

namespace Sys2Proof.Machine

open Safety

variable (s : State)

/-! ## Reset -/

/-- Reset adds to power-on the word of RAM[0], which is 0 in an empty RAM. -/
theorem resetMachine_reset : resetMachine State.reset = State.reset := rfl

theorem getReg_resetMachine (r : Reg) : (resetMachine s).getReg r = 0 := Vector.getElem_replicate r.isLt

theorem quiescent_resetMachine : quiescent (resetMachine s) = true :=
  (quiescent_iff _).mpr ⟨rfl, rfl, rfl⟩

/-- The memory is kept and PC is 0, so that RAM[0], which Reset primes IR0 and ramOut with, is the word at PC. -/
theorem latched_resetMachine : Latched (resetMachine s) := ⟨rfl, rfl, rfl⟩

theorem halted_resetMachine_iff :
    halted (resetMachine s) = true ↔ classField (s.memRead 0) = 7 ∧ subField (s.memRead 0) = 0 := by
  rw [halted_eq_isHlt (quiescent_resetMachine s)]
  exact isHlt_iff (s.memRead 0)

variable {s}

theorem inv_resetMachine (h : s.mem.wf = true) : Inv (resetMachine s) :=
  ⟨h, quiescent_resetMachine s, latched_resetMachine s⟩

/-- Everything R252 says is of a flag that is set. -/
theorem phaseInv_of_phases_eq_none (h : s.phases = .none) : PhaseInv s := by
  constructor
  all_goals rw [h]
  case notExtRegA | notExtSpc | notRegASpc => exact fun hboth => Bool.false_ne_true hboth.1
  case rtsWithSpc | jsrWithExt | extWithWord | addrJ | addrB => exact fun hset => absurd hset Bool.false_ne_true

/-! ## RunFrame -/

theorem frameTicks_of_pos {f : Nat} (h : 0 < f) : frameTicks f = 10 * f := by
  rw [frameTicks, if_neg h.ne', Nat.mul_comm]

end Sys2Proof.Machine

namespace Sys2Proof.Proofs

open Sys2Proof.Machine Sys2Proof.Safety

/-- Settles O39: the power-on state is its own Reset, and a Reset keeps a canonical memory, here the empty one. -/
theorem resetMeetsTheInvariant : Obligations.ResetMeetsTheInvariant := by
  unfold Obligations.ResetMeetsTheInvariant
  rw [← resetMachine_reset]
  exact ⟨inv_resetMachine Memory.wf_nil, phaseInv_of_phases_eq_none rfl⟩

/-- Settles O59: the rows of R321 in the order of the statement; only the registers and the halted state, which the
boundary reduces to the word primed, need more than the row itself. -/
theorem resetClearsAllButRam : Obligations.ResetClearsAllButRam := by
  unfold Obligations.ResetClearsAllButRam
  intro s
  exact ⟨rfl, rfl, rfl, getReg_resetMachine s, rfl, rfl, rfl, rfl, rfl, rfl, rfl, rfl, rfl, rfl, rfl, rfl,
    halted_resetMachine_iff s⟩

/-- Settles O60: a frame at frequency 0 is the one tick, and any other is the ticks that `frameTicks` counts. -/
theorem runFrameTicks : Obligations.RunFrameTicks := by
  unfold Obligations.RunFrameTicks
  exact fun s => ⟨rfl, fun f h => by rw [runFrame, frameTicks_of_pos h]⟩

end Sys2Proof.Proofs
